-- ==== Sys2Proof/Word.lean ====
section
/-! DEFINITION. The word types of the S1C6200/6200A core (00_scope.md R6): what the manual treats as bits. -/

namespace Sys2Proof

/-- One bit: PCB and NBP (R6). -/
abbrev Bit := BitVec 1

/-- One data word, register or flag nibble: 4 bits (R6). -/
abbrev Nibble := BitVec 4

/-- Eight bits: PCS, SP, XHL, YHL, the operands `s` and `e` (R6, R10). -/
abbrev Byte := BitVec 8

/-- One instruction word: 12 bits (30_encoding.md R90). -/
abbrev Word := BitVec 12

/-- An address of data memory: 4 page bits, 8 in-page bits (20_memory.md R61). -/
abbrev Addr := BitVec 12

/-- An address of program memory: bank, page, step (20_memory.md R60). -/
abbrev ProgAddr := BitVec 13

end Sys2Proof
end

