-- ==== Sys2Proof/Syntax.lean ====
section
/-! DEFINITION. The instruction set as syntax: one constructor per row of spec/opcode_table.json, 109 in all
(30_encoding.md R98, R106), with the operands of 00_scope.md R10. -/

namespace Sys2Proof

/-- The operand named by a 2-bit selector `r` or `q` (Table 3.2.1; 00_scope.md R10, 30_encoding.md R96). -/
inductive Sel where
  /-- selector 0: the A register -/
  | a
  /-- selector 1: the B register -/
  | b
  /-- selector 2: the data memory word at IX -/
  | mx
  /-- selector 3: the data memory word at IY -/
  | my
deriving DecidableEq, Repr

/-- The 109 instructions. Operands: `s`, `e` 8-bit immediates; `i`, `n` 4-bit immediates; `p` the 5-bit immediate of
PSET; `r`, `q` selectors (R10, R95). -/
inductive Instr where
  -- Branch instructions (40_branch.md)
  /-- PSET p (R120). -/
  | pset (p : BitVec 5)
  /-- JP s (R121). -/
  | jp (s : Byte)
  /-- JP C,s (R122). -/
  | jpC (s : Byte)
  /-- JP NC,s (R123). -/
  | jpNC (s : Byte)
  /-- JP Z,s (R124). -/
  | jpZ (s : Byte)
  /-- JP NZ,s (R125). -/
  | jpNZ (s : Byte)
  /-- JPBA (R126). -/
  | jpba
  /-- CALL s (R127). -/
  | call (s : Byte)
  /-- CALZ s (R128). -/
  | calz (s : Byte)
  /-- RET (R129). -/
  | ret
  /-- RETS (R130). -/
  | rets
  /-- RETD e (R131). -/
  | retd (e : Byte)
  -- System control instructions (41_system_control.md)
  /-- NOP5 (R140). -/
  | nop5
  /-- NOP7 (R141). -/
  | nop7
  /-- HALT (R142). -/
  | halt
  /-- SLP (R143). -/
  | slp
  -- Flag instructions (42_flag.md)
  /-- SET F,i (R150). -/
  | setF (i : Nibble)
  /-- RST F,i (R151). -/
  | rstF (i : Nibble)
  /-- SCF (R152). -/
  | scf
  /-- RCF (R153). -/
  | rcf
  /-- SZF (R154). -/
  | szf
  /-- RZF (R155). -/
  | rzf
  /-- SDF (R156). -/
  | sdf
  /-- RDF (R157). -/
  | rdf
  /-- EI (R158). -/
  | ei
  /-- DI (R159). -/
  | di
  -- Stack instructions (43_stack.md)
  /-- PUSH r (R165). -/
  | pushR (r : Sel)
  /-- PUSH XP (R166). -/
  | pushXP
  /-- PUSH XH (R167). -/
  | pushXH
  /-- PUSH XL (R168). -/
  | pushXL
  /-- PUSH YP (R169). -/
  | pushYP
  /-- PUSH YH (R170). -/
  | pushYH
  /-- PUSH YL (R171). -/
  | pushYL
  /-- PUSH F (R172). -/
  | pushF
  /-- POP r (R173). -/
  | popR (r : Sel)
  /-- POP XP (R174). -/
  | popXP
  /-- POP XH (R175). -/
  | popXH
  /-- POP XL (R176). -/
  | popXL
  /-- POP YP (R177). -/
  | popYP
  /-- POP YH (R178). -/
  | popYH
  /-- POP YL (R179). -/
  | popYL
  /-- POP F (R180). -/
  | popF
  /-- INC SP (R181). -/
  | incSP
  /-- DEC SP (R182). -/
  | decSP
  /-- LD SPH,r (R183). -/
  | ldSPHR (r : Sel)
  /-- LD SPL,r (R184). -/
  | ldSPLR (r : Sel)
  /-- LD r,SPH (R185). -/
  | ldRSPH (r : Sel)
  /-- LD r,SPL (R186). -/
  | ldRSPL (r : Sel)
  -- Index register instructions (44_index.md)
  /-- INC X (R195). -/
  | incX
  /-- INC Y (R196). -/
  | incY
  /-- LD X,e (R197). -/
  | ldXE (e : Byte)
  /-- LD Y,e (R198). -/
  | ldYE (e : Byte)
  /-- LD XP,r (R199). -/
  | ldXPR (r : Sel)
  /-- LD XH,r (R200). -/
  | ldXHR (r : Sel)
  /-- LD XL,r (R201). -/
  | ldXLR (r : Sel)
  /-- LD YP,r (R202). -/
  | ldYPR (r : Sel)
  /-- LD YH,r (R203). -/
  | ldYHR (r : Sel)
  /-- LD YL,r (R204). -/
  | ldYLR (r : Sel)
  /-- LD r,XP (R205). -/
  | ldRXP (r : Sel)
  /-- LD r,XH (R206). -/
  | ldRXH (r : Sel)
  /-- LD r,XL (R207). -/
  | ldRXL (r : Sel)
  /-- LD r,YP (R208). -/
  | ldRYP (r : Sel)
  /-- LD r,YH (R209). -/
  | ldRYH (r : Sel)
  /-- LD r,YL (R210). -/
  | ldRYL (r : Sel)
  /-- ADC XH,i (R211). -/
  | adcXHI (i : Nibble)
  /-- ADC XL,i (R212). -/
  | adcXLI (i : Nibble)
  /-- ADC YH,i (R213). -/
  | adcYHI (i : Nibble)
  /-- ADC YL,i (R214). -/
  | adcYLI (i : Nibble)
  /-- CP XH,i (R215). -/
  | cpXHI (i : Nibble)
  /-- CP XL,i (R216). -/
  | cpXLI (i : Nibble)
  /-- CP YH,i (R217). -/
  | cpYHI (i : Nibble)
  /-- CP YL,i (R218). -/
  | cpYLI (i : Nibble)
  -- Data transfer instructions (45_data_transfer.md)
  /-- LD r,i (R225). -/
  | ldRI (r : Sel) (i : Nibble)
  /-- LD r,q (R226). -/
  | ldRQ (r : Sel) (q : Sel)
  /-- LD A,Mn (R227). -/
  | ldAMn (n : Nibble)
  /-- LD B,Mn (R228). -/
  | ldBMn (n : Nibble)
  /-- LD Mn,A (R229). -/
  | ldMnA (n : Nibble)
  /-- LD Mn,B (R230). -/
  | ldMnB (n : Nibble)
  /-- LDPX MX,i (R231). -/
  | ldpxMXI (i : Nibble)
  /-- LDPX r,q (R232). -/
  | ldpxRQ (r : Sel) (q : Sel)
  /-- LDPY MY,i (R233). -/
  | ldpyMYI (i : Nibble)
  /-- LDPY r,q (R234). -/
  | ldpyRQ (r : Sel) (q : Sel)
  /-- LBPX MX,e (R235). -/
  | lbpx (e : Byte)
  -- Arithmetic and logical instructions (46_arithmetic.md)
  /-- ADD r,i (R250). -/
  | addRI (r : Sel) (i : Nibble)
  /-- ADD r,q (R251). -/
  | addRQ (r : Sel) (q : Sel)
  /-- ADC r,i (R252). -/
  | adcRI (r : Sel) (i : Nibble)
  /-- ADC r,q (R253). -/
  | adcRQ (r : Sel) (q : Sel)
  /-- SUB r,q (R254). -/
  | subRQ (r : Sel) (q : Sel)
  /-- SBC r,i (R255). -/
  | sbcRI (r : Sel) (i : Nibble)
  /-- SBC r,q (R256). -/
  | sbcRQ (r : Sel) (q : Sel)
  /-- AND r,i (R257). -/
  | andRI (r : Sel) (i : Nibble)
  /-- AND r,q (R258). -/
  | andRQ (r : Sel) (q : Sel)
  /-- OR r,i (R259). -/
  | orRI (r : Sel) (i : Nibble)
  /-- OR r,q (R260). -/
  | orRQ (r : Sel) (q : Sel)
  /-- XOR r,i (R261). -/
  | xorRI (r : Sel) (i : Nibble)
  /-- XOR r,q (R262). -/
  | xorRQ (r : Sel) (q : Sel)
  /-- CP r,i (R263). -/
  | cpRI (r : Sel) (i : Nibble)
  /-- CP r,q (R264). -/
  | cpRQ (r : Sel) (q : Sel)
  /-- FAN r,i (R265). -/
  | fanRI (r : Sel) (i : Nibble)
  /-- FAN r,q (R266). -/
  | fanRQ (r : Sel) (q : Sel)
  /-- RLC r (R267). -/
  | rlc (r : Sel)
  /-- RRC r (R268). -/
  | rrc (r : Sel)
  /-- INC Mn (R269). -/
  | incMn (n : Nibble)
  /-- DEC Mn (R270). -/
  | decMn (n : Nibble)
  /-- ACPX MX,r (R271). -/
  | acpx (r : Sel)
  /-- ACPY MY,r (R272). -/
  | acpy (r : Sel)
  /-- SCPX MX,r (R273). -/
  | scpx (r : Sel)
  /-- SCPY MY,r (R274). -/
  | scpy (r : Sel)
  /-- NOT r (R275). -/
  | notR (r : Sel)
deriving DecidableEq, Repr

end Sys2Proof
end

