-- ==== Sys2Proof/Decode.lean ====
section
/-! DEFINITION. Decoding one 12-bit instruction word (30_encoding.md R91 to R101), total on every word, and the encoder
written from the same map (R98). -/

namespace Sys2Proof

/-- Why a word is no instruction. -/
inductive DecodeError where
  /-- one of the words that no instruction is assigned to (R101) -/
  | unassigned (w : Word)
  /-- one of the twelve words AFxH whose two register fields differ (R99, 90_conflicts.md C8) -/
  | rlcFieldsDiffer (w : Word)
deriving DecidableEq, Repr

/-- The `n`-bit field of `w` whose least significant bit is bit `lo`. -/
def field (w : Word) (lo n : Nat) : BitVec n := w.extractLsb' lo n

/-- Table 3.2.1 (R96): 00 = A, 01 = B, 10 = MX, 11 = MY. -/
def Sel.ofBits (v : BitVec 2) : Sel :=
  match v.toNat with
  | 0 => .a
  | 1 => .b
  | 2 => .mx
  | _ => .my

/-- The selector's code in Table 3.2.1. -/
def Sel.bits : Sel → BitVec 2
  | .a => 0
  | .b => 1
  | .mx => 2
  | .my => 3

/-- The selector in bits `lo+1..lo`. -/
def selAt (w : Word) (lo : Nat) : Sel := Sel.ofBits (field w lo 2)

/-- A00H to AFFH: the index halves, the `r,q` arithmetic, RLC (R98, R99). -/
def decodeA (w : Word) : Except DecodeError Instr :=
  let i := field w 0 4
  let r := selAt w 2
  let q := selAt w 0
  match (field w 4 4).toNat with
  | 0x0 => .ok (.adcXHI i)
  | 0x1 => .ok (.adcXLI i)
  | 0x2 => .ok (.adcYHI i)
  | 0x3 => .ok (.adcYLI i)
  | 0x4 => .ok (.cpXHI i)
  | 0x5 => .ok (.cpXLI i)
  | 0x6 => .ok (.cpYHI i)
  | 0x7 => .ok (.cpYLI i)
  | 0x8 => .ok (.addRQ r q)
  | 0x9 => .ok (.adcRQ r q)
  | 0xA => .ok (.subRQ r q)
  | 0xB => .ok (.sbcRQ r q)
  | 0xC => .ok (.andRQ r q)
  | 0xD => .ok (.orRQ r q)
  | 0xE => .ok (.xorRQ r q)
  | _ => if r = q then .ok (.rlc q) else .error (.rlcFieldsDiffer w)

/-- C00H to CFFH, type II (R93). -/
def decodeC (w : Word) : Except DecodeError Instr :=
  let r := selAt w 4
  let i := field w 0 4
  match (field w 6 2).toNat with
  | 0 => .ok (.addRI r i)
  | 1 => .ok (.adcRI r i)
  | 2 => .ok (.andRI r i)
  | _ => .ok (.orRI r i)

/-- D00H to DFFH, type II (R93), with NOT r in the words of XOR r,0FH (R100). -/
def decodeD (w : Word) : Except DecodeError Instr :=
  let r := selAt w 4
  let i := field w 0 4
  match (field w 6 2).toNat with
  | 0 => if i = 0xF then .ok (.notR r) else .ok (.xorRI r i)
  | 1 => .ok (.sbcRI r i)
  | 2 => .ok (.fanRI r i)
  | _ => .ok (.cpRI r i)

/-- E00H to EFFH (R93, R94, R98), with INC X and INC Y at EE0H and EF0H (R100). -/
def decodeE (w : Word) : Except DecodeError Instr :=
  let i := field w 0 4
  let r := selAt w 2
  let q := selAt w 0
  match (field w 4 4).toNat with
  | 0x4 | 0x5 => .ok (.pset (field w 0 5))
  | 0x6 => .ok (.ldpxMXI i)
  | 0x7 => .ok (.ldpyMYI i)
  | 0x8 => match (field w 2 2).toNat with
    | 0 => .ok (.ldXPR q)
    | 1 => .ok (.ldXHR q)
    | 2 => .ok (.ldXLR q)
    | _ => .ok (.rrc q)
  | 0x9 => match (field w 2 2).toNat with
    | 0 => .ok (.ldYPR q)
    | 1 => .ok (.ldYHR q)
    | 2 => .ok (.ldYLR q)
    | _ => .error (.unassigned w)
  | 0xA => match (field w 2 2).toNat with
    | 0 => .ok (.ldRXP q)
    | 1 => .ok (.ldRXH q)
    | 2 => .ok (.ldRXL q)
    | _ => .error (.unassigned w)
  | 0xB => match (field w 2 2).toNat with
    | 0 => .ok (.ldRYP q)
    | 1 => .ok (.ldRYH q)
    | 2 => .ok (.ldRYL q)
    | _ => .error (.unassigned w)
  | 0xC => .ok (.ldRQ r q)
  | 0xD => .error (.unassigned w)
  | 0xE => if i = 0 then .ok .incX else .ok (.ldpxRQ r q)
  | 0xF => if i = 0 then .ok .incY else .ok (.ldpyRQ r q)
  | _ => .ok (.ldRI (selAt w 4) i)

/-- FC0H to FCFH: PUSH and DEC SP (R98). -/
def decodeFC (w : Word) : Except DecodeError Instr :=
  match (field w 0 4).toNat with
  | 0x4 => .ok .pushXP
  | 0x5 => .ok .pushXH
  | 0x6 => .ok .pushXL
  | 0x7 => .ok .pushYP
  | 0x8 => .ok .pushYH
  | 0x9 => .ok .pushYL
  | 0xA => .ok .pushF
  | 0xB => .ok .decSP
  | 0xC | 0xD | 0xE | 0xF => .error (.unassigned w)
  | _ => .ok (.pushR (selAt w 0))

/-- FD0H to FDFH: POP (PRESUMED, log 11), INC SP, RETS, RET (R98). -/
def decodeFD (w : Word) : Except DecodeError Instr :=
  match (field w 0 4).toNat with
  | 0x4 => .ok .popXP
  | 0x5 => .ok .popXH
  | 0x6 => .ok .popXL
  | 0x7 => .ok .popYP
  | 0x8 => .ok .popYH
  | 0x9 => .ok .popYL
  | 0xA => .ok .popF
  | 0xB => .ok .incSP
  | 0xC | 0xD => .error (.unassigned w)
  | 0xE => .ok .rets
  | 0xF => .ok .ret
  | _ => .ok (.popR (selAt w 0))

/-- FE0H to FEFH: the SPH loads (PRESUMED, log 11) and JPBA (R98). -/
def decodeFE (w : Word) : Except DecodeError Instr :=
  match (field w 2 2).toNat with
  | 0 => .ok (.ldSPHR (selAt w 0))
  | 1 => .ok (.ldRSPH (selAt w 0))
  | _ => if field w 0 4 = 0x8 then .ok .jpba else .error (.unassigned w)

/-- FF0H to FFFH: the SPL loads (PRESUMED, log 11), HALT, SLP, NOP5, NOP7 (R98). -/
def decodeFF (w : Word) : Except DecodeError Instr :=
  match (field w 0 4).toNat with
  | 0x0 | 0x1 | 0x2 | 0x3 => .ok (.ldSPLR (selAt w 0))
  | 0x4 | 0x5 | 0x6 | 0x7 => .ok (.ldRSPL (selAt w 0))
  | 0x8 => .ok .halt
  | 0x9 => .ok .slp
  | 0xB => .ok .nop5
  | 0xF => .ok .nop7
  | _ => .error (.unassigned w)

/-- F40H to F4FH: SET F,i and its four named words (R100). -/
def decodeSet (i : Nibble) : Instr :=
  match i.toNat with
  | 1 => .scf
  | 2 => .szf
  | 4 => .sdf
  | 8 => .ei
  | _ => .setF i

/-- F50H to F5FH: RST F,i and its four named words (R100). -/
def decodeRst (i : Nibble) : Instr :=
  match i.toNat with
  | 0x7 => .di
  | 0xB => .rdf
  | 0xD => .rzf
  | 0xE => .rcf
  | _ => .rstF i

/-- F00H to FFFH (R98); the operands of F80H to FBFH are PRESUMED (log 11). -/
def decodeF (w : Word) : Except DecodeError Instr :=
  let i := field w 0 4
  let r := selAt w 2
  let q := selAt w 0
  match (field w 4 4).toNat with
  | 0x0 => .ok (.cpRQ r q)
  | 0x1 => .ok (.fanRQ r q)
  | 0x2 => match (field w 2 2).toNat with
    | 2 => .ok (.acpx q)
    | 3 => .ok (.acpy q)
    | _ => .error (.unassigned w)
  | 0x3 => match (field w 2 2).toNat with
    | 2 => .ok (.scpx q)
    | 3 => .ok (.scpy q)
    | _ => .error (.unassigned w)
  | 0x4 => .ok (decodeSet i)
  | 0x5 => .ok (decodeRst i)
  | 0x6 => .ok (.incMn i)
  | 0x7 => .ok (.decMn i)
  | 0x8 => .ok (.ldMnA i)
  | 0x9 => .ok (.ldMnB i)
  | 0xA => .ok (.ldAMn i)
  | 0xB => .ok (.ldBMn i)
  | 0xC => decodeFC w
  | 0xD => decodeFD w
  | 0xE => decodeFE w
  | _ => decodeFF w

/-- The instruction a word is, or why it is none (R97, R98). Bits 11..8 open the type I instructions or a group (R92).
A word that R100 names is read as its alias. -/
def decode (w : Word) : Except DecodeError Instr :=
  let e := field w 0 8
  match (field w 8 4).toNat with
  | 0x0 => .ok (.jp e)
  | 0x1 => .ok (.retd e)
  | 0x2 => .ok (.jpC e)
  | 0x3 => .ok (.jpNC e)
  | 0x4 => .ok (.call e)
  | 0x5 => .ok (.calz e)
  | 0x6 => .ok (.jpZ e)
  | 0x7 => .ok (.jpNZ e)
  | 0x8 => .ok (.ldYE e)
  | 0x9 => .ok (.lbpx e)
  | 0xA => decodeA w
  | 0xB => .ok (.ldXE e)
  | 0xC => decodeC w
  | 0xD => decodeD w
  | 0xE => decodeE w
  | _ => decodeF w

/-- The instruction word of the opcode table's numbering (bit 0 the least significant): one 12-bit word, whatever whole
number of bytes it is given in. A number that no 12-bit word has is no instruction. -/
def decodeTableWord (_nbits w : Nat) : Option Instr :=
  if w < 4096 then (decode (BitVec.ofNat 12 w)).toOption else none

/-! ## The encoder -/

/-- Type I (R91): 4 opcode bits, an 8-bit operand. -/
def typeI (op : BitVec 4) (e : Byte) : Word := op ++ e

/-- Type II (R91): 6 opcode bits, `r`, `i`. -/
def typeII (op : BitVec 6) (r : Sel) (i : Nibble) : Word := op ++ r.bits ++ i

/-- Type IV with a 4-bit operand (R91). -/
def typeIV (op : BitVec 8) (i : Nibble) : Word := op ++ i

/-- Type IV with two selectors (R91): `r` in bits 3..2, `q` in bits 1..0. -/
def typeIVrq (op : BitVec 8) (r q : Sel) : Word := op ++ r.bits ++ q.bits

/-- Type V (R91): 10 opcode bits, `r`. -/
def typeV (op : BitVec 10) (r : Sel) : Word := op ++ r.bits

/-- The word of an instruction (R98). -/
def encode : Instr → Word
  | .pset p => (0b1110010#7 ++ p : Word)
  | .jp s => typeI 0x0 s
  | .jpC s => typeI 0x2 s
  | .jpNC s => typeI 0x3 s
  | .jpZ s => typeI 0x6 s
  | .jpNZ s => typeI 0x7 s
  | .jpba => 0xFE8
  | .call s => typeI 0x4 s
  | .calz s => typeI 0x5 s
  | .ret => 0xFDF
  | .rets => 0xFDE
  | .retd e => typeI 0x1 e
  | .nop5 => 0xFFB
  | .nop7 => 0xFFF
  | .halt => 0xFF8
  | .slp => 0xFF9
  | .setF i => typeIV 0xF4 i
  | .rstF i => typeIV 0xF5 i
  | .scf => 0xF41
  | .rcf => 0xF5E
  | .szf => 0xF42
  | .rzf => 0xF5D
  | .sdf => 0xF44
  | .rdf => 0xF5B
  | .ei => 0xF48
  | .di => 0xF57
  | .pushR r => typeV 0b1111110000 r
  | .pushXP => 0xFC4
  | .pushXH => 0xFC5
  | .pushXL => 0xFC6
  | .pushYP => 0xFC7
  | .pushYH => 0xFC8
  | .pushYL => 0xFC9
  | .pushF => 0xFCA
  | .popR r => typeV 0b1111110100 r
  | .popXP => 0xFD4
  | .popXH => 0xFD5
  | .popXL => 0xFD6
  | .popYP => 0xFD7
  | .popYH => 0xFD8
  | .popYL => 0xFD9
  | .popF => 0xFDA
  | .incSP => 0xFDB
  | .decSP => 0xFCB
  | .ldSPHR r => typeV 0b1111111000 r
  | .ldSPLR r => typeV 0b1111111100 r
  | .ldRSPH r => typeV 0b1111111001 r
  | .ldRSPL r => typeV 0b1111111101 r
  | .incX => 0xEE0
  | .incY => 0xEF0
  | .ldXE e => typeI 0xB e
  | .ldYE e => typeI 0x8 e
  | .ldXPR r => typeV 0b1110100000 r
  | .ldXHR r => typeV 0b1110100001 r
  | .ldXLR r => typeV 0b1110100010 r
  | .ldYPR r => typeV 0b1110100100 r
  | .ldYHR r => typeV 0b1110100101 r
  | .ldYLR r => typeV 0b1110100110 r
  | .ldRXP r => typeV 0b1110101000 r
  | .ldRXH r => typeV 0b1110101001 r
  | .ldRXL r => typeV 0b1110101010 r
  | .ldRYP r => typeV 0b1110101100 r
  | .ldRYH r => typeV 0b1110101101 r
  | .ldRYL r => typeV 0b1110101110 r
  | .adcXHI i => typeIV 0xA0 i
  | .adcXLI i => typeIV 0xA1 i
  | .adcYHI i => typeIV 0xA2 i
  | .adcYLI i => typeIV 0xA3 i
  | .cpXHI i => typeIV 0xA4 i
  | .cpXLI i => typeIV 0xA5 i
  | .cpYHI i => typeIV 0xA6 i
  | .cpYLI i => typeIV 0xA7 i
  | .ldRI r i => typeII 0b111000 r i
  | .ldRQ r q => typeIVrq 0xEC r q
  | .ldAMn n => typeIV 0xFA n
  | .ldBMn n => typeIV 0xFB n
  | .ldMnA n => typeIV 0xF8 n
  | .ldMnB n => typeIV 0xF9 n
  | .ldpxMXI i => typeIV 0xE6 i
  | .ldpxRQ r q => typeIVrq 0xEE r q
  | .ldpyMYI i => typeIV 0xE7 i
  | .ldpyRQ r q => typeIVrq 0xEF r q
  | .lbpx e => typeI 0x9 e
  | .addRI r i => typeII 0b110000 r i
  | .addRQ r q => typeIVrq 0xA8 r q
  | .adcRI r i => typeII 0b110001 r i
  | .adcRQ r q => typeIVrq 0xA9 r q
  | .subRQ r q => typeIVrq 0xAA r q
  | .sbcRI r i => typeII 0b110101 r i
  | .sbcRQ r q => typeIVrq 0xAB r q
  | .andRI r i => typeII 0b110010 r i
  | .andRQ r q => typeIVrq 0xAC r q
  | .orRI r i => typeII 0b110011 r i
  | .orRQ r q => typeIVrq 0xAD r q
  | .xorRI r i => typeII 0b110100 r i
  | .xorRQ r q => typeIVrq 0xAE r q
  | .cpRI r i => typeII 0b110111 r i
  | .cpRQ r q => typeIVrq 0xF0 r q
  | .fanRI r i => typeII 0b110110 r i
  | .fanRQ r q => typeIVrq 0xF1 r q
  | .rlc r => typeIVrq 0xAF r r
  | .rrc r => typeV 0b1110100011 r
  | .incMn n => typeIV 0xF6 n
  | .decMn n => typeIV 0xF7 n
  | .acpx r => typeV 0b1111001010 r
  | .acpy r => typeV 0b1111001011 r
  | .scpx r => typeV 0b1111001110 r
  | .scpy r => typeV 0b1111001111 r
  | .notR r => typeII 0b110100 r 0xF

end Sys2Proof
end

