-- ==== Sys2Proof/Machine/Timing.lean ====
section
/-! DEFINITION. Clock cycles (70_reset_and_hazards.md R360). A conditional jump costs 5 taken or not. The counts the spec
gives from general knowledge are PRESUMED (log 11). -/

namespace Sys2Proof.Machine

/-- The clock cycles of an instruction (R360; the `clk` column of 30_encoding.md R98). -/
def clocksOf (i : Instr) : Nat :=
  match i with
  | .rets | .retd _ => 12
  | .call _ | .calz _ | .ret | .nop7 | .setF _ | .rstF _ | .scf | .rcf | .szf | .rzf | .sdf | .rdf | .ei | .di
  | .adcXHI _ | .adcXLI _ | .adcYHI _ | .adcYLI _ | .cpXHI _ | .cpXLI _ | .cpYHI _ | .cpYLI _ | .addRI _ _
  | .addRQ _ _ | .adcRI _ _ | .adcRQ _ _ | .subRQ _ _ | .sbcRI _ _ | .sbcRQ _ _ | .andRI _ _ | .andRQ _ _
  | .orRI _ _ | .orRQ _ _ | .xorRI _ _ | .xorRQ _ _ | .cpRI _ _ | .cpRQ _ _ | .fanRI _ _ | .fanRQ _ _ | .rlc _
  | .incMn _ | .decMn _ | .acpx _ | .acpy _ | .scpx _ | .scpy _ | .notR _ => 7
  | .pset _ | .jp _ | .jpC _ | .jpNC _ | .jpZ _ | .jpNZ _ | .jpba | .nop5 | .halt | .slp | .pushR _ | .pushXP
  | .pushXH | .pushXL | .pushYP | .pushYH | .pushYL | .pushF | .popR _ | .popXP | .popXH | .popXL | .popYP | .popYH
  | .popYL | .popF | .incSP | .decSP | .ldSPHR _ | .ldSPLR _ | .ldRSPH _ | .ldRSPL _ | .incX | .incY | .ldXE _
  | .ldYE _ | .ldXPR _ | .ldXHR _ | .ldXLR _ | .ldYPR _ | .ldYHR _ | .ldYLR _ | .ldRXP _ | .ldRXH _ | .ldRXL _
  | .ldRYP _ | .ldRYH _ | .ldRYL _ | .ldRI _ _ | .ldRQ _ _ | .ldAMn _ | .ldBMn _ | .ldMnA _ | .ldMnB _ | .ldpxMXI _
  | .ldpxRQ _ _ | .ldpyMYI _ | .ldpyRQ _ _ | .lbpx _ | .rrc _ => 5

end Sys2Proof.Machine
end

