-- ==== Sys2Proof/Config.lean ====
section
/-! DEFINITION. What a device built around the core fixes (00_scope.md R7: the model's arguments, here plain data that
State carries and no step changes but for the program loaded into ROM), and the FREE VALUES: constants with no body, of
which nothing can be proved, for the values the spec leaves open. -/

namespace Sys2Proof.Config

/-- The core variant `CORE` (R1, R7). It decides the D flag after reset (70_reset_and_hazards.md R342). -/
inductive Core where
  | s1c6200
  | s1c6200A
deriving DecidableEq, Repr

/-- What `RAM_MAP` says of a data address (R7). -/
inductive AddrKind where
  /-- a word of RAM -/
  | ram
  /-- a peripheral register -/
  | io
  /-- nothing -/
  | absent
deriving DecidableEq, Repr

/-- `size` consecutive data addresses from `base` on, all of one kind. -/
structure Region where
  base : Nat
  size : Nat
  kind : AddrKind
deriving DecidableEq, Repr

/-- The parameter `RLC_RRC_WRITE_Z` (R7; 90_conflicts.md C1). -/
inductive RotateZ where
  /-- `false`: Z is unchanged by RLC and RRC (the §3.5 entries) -/
  | keeps
  /-- `true`: Z <- (result = 0) (the index arrows) -/
  | writes
  /-- `either`, the default: Z afterwards is one of those two, unknown which -/
  | either
deriving DecidableEq, Repr

/-- One access to a peripheral register (20_memory.md R71, R73). -/
inductive IoAccess where
  | read (a : Addr)
  | write (a : Addr) (v : Nibble)
deriving DecidableEq, Repr

/-- A condition on what a peripheral register holds: its bits of `mask` are those of `value`. -/
structure IoTest where
  addr : Addr
  mask : Nibble
  value : Nibble
deriving DecidableEq, Repr

/-- What an access does to one peripheral register: of its bits, those of `keep` stay, those of `take` become the bits
written, those of `set` become 1, the others become 0. -/
structure IoEffect where
  addr : Addr
  keep : Nibble
  take : Nibble
  set : Nibble
deriving DecidableEq, Repr

/-- One line of what a device says of its peripheral registers: on an access of this kind to `addr`, where the `tests`
hold and, for a write, the written word's bits of `mask` are those of `value`: a read answers the bits of `known` from
what the register holds, the other bits come from outside the core; and the `effects` happen. -/
structure IoRule where
  isWrite : Bool
  addr : Addr
  tests : List IoTest
  mask : Nibble
  value : Nibble
  known : Nibble
  effects : List IoEffect
deriving DecidableEq, Repr

/-- The parameters `IO_READ` and `IO_WRITE` (R7; 20_memory.md R73), as data: the first rule that an access meets says
what it does; an access that meets none has no known effect and a read of it answers from outside the core. -/
structure Peripherals where
  /-- which peripheral circuits these are: what comes from outside the core depends on it -/
  model : Nat
  rules : List IoRule
  /-- what the registers hold after initial reset, addresses strictly rising -/
  atReset : List (Nat × Nibble)
deriving DecidableEq, Repr

/-- A part of the core's state that an unassigned word can be said to change, at most four bits; `temp` is the ALU's
latch for the time of the instruction (10_state.md R46). -/
inductive Place where
  | a | b | xp | xh | xl | yp | yh | yl | sph | spl | rp | f | pcb | pcp | pcsh | pcsl | temp
deriving DecidableEq, Repr

/-- One step of what an unassigned word does. -/
inductive Micro where
  /-- what instruction `i` does when it executes -/
  | acts (i : Instr)
  /-- `g` becomes `v` -/
  | put (g : Place) (v : Nibble)
  /-- `g` becomes what `h` holds -/
  | copy (g h : Place)
  /-- `g` becomes a free value -/
  | free (g : Place)
  /-- the next `n` steps are left out if the bits `mask` of `g` are those of `value` -/
  | skip (g : Place) (mask value : Nibble) (n : Nat)
deriving DecidableEq, Repr

/-- What a device does with a word that has no meaning (`UNASSIGNED_OPCODE`; 30_encoding.md R101). -/
inductive Treatment where
  /-- the word is another code of instruction `i` -/
  | secondCode (i : Instr)
  /-- the word is an instruction of the device's own: these steps, in this many clock cycles -/
  | own (steps : List Micro) (clocks : Nat)
deriving DecidableEq, Repr

/-- The device's parameters (R7). Interrupt requests (`IRQ`) are the input list of State. -/
structure Device where
  /-- `CORE` -/
  core : Core
  /-- `ROM`: the program words that exist, addresses strictly rising; an unlisted address does not exist -/
  rom : List (Nat × Word)
  /-- `RAM_MAP`: the first region that holds an address gives its kind; an address in no region is absent -/
  ramMap : List Region
  /-- `IO_READ` and `IO_WRITE` -/
  io : Peripherals
  /-- `INSTR_SUBSET`, by its complement: inclusive ranges of instruction words the device does not implement -/
  excluded : List (Nat × Nat)
  /-- `UNASSIGNED_OPCODE`: the treatment of words without a meaning; a word not listed faults, and nothing is listed by
  default (R101, 92_eei_decisions.md D1) -/
  unassigned : List (Word × Treatment)
  /-- `RLC_RRC_WRITE_Z` -/
  rotateZ : RotateZ
deriving DecidableEq, Repr

/-- DESIGN CHOICE (log 4): the device of State.reset. An S1C6200A, all 4096 data words RAM (the convention of
95_test_vectors.md section 0), no program word, all 109 instructions, and the defaults of R7. -/
def Device.standard : Device :=
  { core := .s1c6200A, rom := [], ramMap := [⟨0, 4096, .ram⟩], io := ⟨0, [], []⟩, excluded := [], unassigned := []
    rotateZ := .either }

/-- FREE VALUE (log 3): what RAM word `a` holds after the `epoch`-th reset until something writes it: arbitrary but
stable (70_reset_and_hazards.md R343, 20_memory.md R76, 92_eei_decisions.md D11). -/
opaque ramAtReset (epoch : Nat) (a : Addr) : Nibble

/-- FREE VALUE (log 2): the D flag of an S1C6200 after the `epoch`-th reset, "Undefined" (70_reset_and_hazards.md R342). -/
opaque dAtReset (epoch : Nat) : Bool

/-- FREE VALUE (log 6): what the peripheral circuits `model` answer from outside the core to a read of `a`, after the
accesses `history` (newest first), at the `n`-th free draw. -/
opaque ioRead (model : Nat) (history : List IoAccess) (n : Nat) (a : Addr) : Nibble

/-- FREE VALUE (log 20): what an unassigned word leaves in a place, where the device says that this is not known. -/
opaque unassignedFree (n : Nat) : Nibble

/-- FREE VALUE (log 9): the result of a decimal operation on an operand above 9 (46_arithmetic.md R248). -/
opaque decimalResult (n : Nat) : Nibble

/-- FREE VALUE (log 9): C after a decimal operation on an operand above 9 (R248). -/
opaque decimalCarry (n : Nat) : Bool

/-- FREE VALUE (log 9): Z after a decimal operation on an operand above 9 (R248). -/
opaque decimalZero (n : Nat) : Bool

/-- FREE VALUE (log 10): whether this rotate writes Z, under `RLC_RRC_WRITE_Z` = `either` (90_conflicts.md C1). -/
opaque rotateWritesZ (n : Nat) : Bool

end Sys2Proof.Config
end

