-- ==== Sys2Proof/Machine/State.lean ====
section
/-! DEFINITION. The machine's state, plain data, holding everything the spec gives the core (10_state.md R20, R42 to R45),
the device's parameters (00_scope.md R7), and the reset state (70_reset_and_hazards.md R340). INVENTORY.md lists each
field with its rule and its reset value. -/

namespace Sys2Proof.Machine

open Sys2Proof.Config

/-- The model's stops. None is a hardware exception: the core has no synchronous exception (60_exceptions.md R300). -/
inductive Fault where
  /-- An access to a data address that `RAM_MAP` marks absent (20_memory.md R76, 92_eei_decisions.md D2). Raised by every
  instruction and by interrupt entry, through memRead and memWrite. Safe. -/
  | absentDataAddress (a : Addr)
  /-- A fetch from a program address that `ROM` does not define (R76, D2). Raised by the fetch. Safe. -/
  | absentProgramAddress (a : ProgAddr)
  /-- The fetched word is one of the 73 that no instruction is assigned to, and `UNASSIGNED_OPCODE` gives it no
  treatment (30_encoding.md R101, D1). Raised by the fetch. Safe. -/
  | unassignedOpcode (w : Word)
  /-- The fetched word is an instruction outside the device's `INSTR_SUBSET` (R102, D4). Raised by the fetch. Safe. -/
  | absentInstruction (w : Word)
deriving DecidableEq, Repr

/-- Why an instruction is refused. -/
inductive Refusal where
  /-- The instruction has no meaning yet; raised by exec's refused arms only (at present there is none). Safe. -/
  | notModelled (mnemonic : String)
deriving DecidableEq, Repr

/-- What the core is doing (10_state.md R42). -/
inductive RunState where
  | run
  | halt
  | sleep
deriving DecidableEq, Repr

/-- What reaches the core from outside at one instruction boundary: the input `IRQ` (R45) and the reset input
(60_exceptions.md R300). -/
inductive Input where
  /-- nothing -/
  | quiet
  /-- an interrupt request with vector `v`, 1 to 15; there is no vector 0, and `request 0` is no request (log 17) -/
  | request (v : Nibble)
  /-- initial reset (70_reset_and_hazards.md R344) -/
  | reset
deriving DecidableEq, Repr

/-- Data memory: the RAM words that something has written since reset, as (address, word) pairs, addresses strictly
rising. An unlisted address holds no written word. -/
abbrev Memory := List (Nat × Nibble)

/-- The state of the core and of what it is connected to. -/
structure State where
  /-- program counter: bank, page, step (R28) -/
  pcb : Bit
  pcp : Nibble
  pcs : Byte
  /-- new bank pointer, new page pointer (R32) -/
  nbp : Bit
  npp : Nibble
  /-- stack pointer (R26) -/
  sp : Byte
  /-- index register IX = XP:XH:XL (R23) -/
  xp : Nibble
  xh : Nibble
  xl : Nibble
  /-- index register IY = YP:YH:YL (R25) -/
  yp : Nibble
  yh : Nibble
  yl : Nibble
  /-- register pointer (R27) -/
  rp : Nibble
  /-- general registers (R21) -/
  a : Nibble
  b : Nibble
  /-- flags I, D, Z, C (R34 to R38) -/
  fi : Bool
  fd : Bool
  fz : Bool
  fc : Bool
  /-- data memory (20_memory.md R61) -/
  ram : Memory
  /-- run state (R42) -/
  run : RunState
  /-- the instruction just completed was PSET (R43) -/
  afterPset : Bool
  /-- the instruction just completed changed I from 0 to 1 (R44) -/
  eiDelay : Bool
  /-- what will reach the core at the coming boundaries, in order; nothing when it is used up (R45, R344) -/
  inputs : List Input
  /-- what the peripheral registers hold, as far as the device says it (00_scope.md R7, 20_memory.md R73; log 6) -/
  ioRegs : Memory
  /-- the I/O accesses made so far, newest first (log 6) -/
  ioTrace : List IoAccess
  /-- the device's parameters (00_scope.md R7) -/
  dev : Device
  /-- how many initial resets there have been (log 7) -/
  ramEpoch : Nat
  /-- how many free values have been drawn (log 7) -/
  draws : Nat
  /-- clock cycles of the instructions executed so far (70_reset_and_hazards.md R360, log 8) -/
  clocks : Nat
deriving DecidableEq, Repr

/-- The state right after initial reset of a core in device `dev`, the `epoch`-th one (70_reset_and_hazards.md R340,
R342). Registers without a value in R340 (A, B, IX, IY, SP, RP, Z, C) are 0: DESIGN CHOICE, log 1. D is 0 on the
S1C6200A and a free value on the S1C6200 (log 2). -/
def State.powerOn (dev : Device) (epoch : Nat) : State :=
  { pcb := 0, pcp := 1, pcs := 0x00, nbp := 0, npp := 1
    sp := 0, xp := 0, xh := 0, xl := 0, yp := 0, yh := 0, yl := 0, rp := 0, a := 0, b := 0
    fi := false
    fd := match dev.core with | .s1c6200A => false | .s1c6200 => dAtReset epoch
    fz := false, fc := false
    ram := [], run := .run, afterPset := false, eiDelay := false
    inputs := [], ioRegs := dev.io.atReset, ioTrace := [], dev := dev, ramEpoch := epoch, draws := 0, clocks := 0 }

/-- The machine right after reset: R340 on the standard device of log 4, no program loaded, no input to come. -/
def State.reset : State := State.powerOn Device.standard 0

end Sys2Proof.Machine
end

