-- ==== Sys2Proof/Machine/Ops.lean ====
section
/-! DEFINITION. The named operations over State: updates, the two memories, address forms, the program counter, the
return address on the stack, taking an interrupt and returning from it, initial reset. Every meaning is written over these. -/

namespace Sys2Proof.Machine

open Sys2Proof.Config

/-- What a meaning ends with: the next state, or the model's stop. -/
def complete (r : Except Fault State) : Host.Outcome State Fault Refusal :=
  match r with
  | .ok s => .next s
  | .error f => .fault f

/-! ## Updates of one register each -/

/-- The program counter becomes `bk:pg:st` (R28). -/
def State.setPC (s : State) (bk : Bit) (pg : Nibble) (st : Byte) : State := { s with pcb := bk, pcp := pg, pcs := st }

/-- NBP and NPP (R32). -/
def State.setNext (s : State) (bk : Bit) (pg : Nibble) : State := { s with nbp := bk, npp := pg }

/-- SP (R26). -/
def State.setSP (s : State) (v : Byte) : State := { s with sp := v }

/-- XP (R23). -/
def State.setXP (s : State) (v : Nibble) : State := { s with xp := v }

/-- XH (R23). -/
def State.setXH (s : State) (v : Nibble) : State := { s with xh := v }

/-- XL (R23). -/
def State.setXL (s : State) (v : Nibble) : State := { s with xl := v }

/-- YP (R25). -/
def State.setYP (s : State) (v : Nibble) : State := { s with yp := v }

/-- YH (R25). -/
def State.setYH (s : State) (v : Nibble) : State := { s with yh := v }

/-- YL (R25). -/
def State.setYL (s : State) (v : Nibble) : State := { s with yl := v }

/-- RP (R27). -/
def State.setRP (s : State) (v : Nibble) : State := { s with rp := v }

/-- A (R21). -/
def State.setA (s : State) (v : Nibble) : State := { s with a := v }

/-- B (R21). -/
def State.setB (s : State) (v : Nibble) : State := { s with b := v }

/-- The I flag (R38). -/
def State.setI (s : State) (v : Bool) : State := { s with fi := v }

/-- The D flag (R37). -/
def State.setD (s : State) (v : Bool) : State := { s with fd := v }

/-- The Z flag (R36). -/
def State.setZ (s : State) (v : Bool) : State := { s with fz := v }

/-- The C flag (R35). -/
def State.setC (s : State) (v : Bool) : State := { s with fc := v }

/-- Data memory. -/
def State.setRam (s : State) (m : Memory) : State := { s with ram := m }

/-- The run state (R42). -/
def State.setRun (s : State) (v : RunState) : State := { s with run := v }

/-- after_pset and ei_delay (R43, R44). -/
def State.setHidden (s : State) (ap : Bool) (ei : Bool) : State := { s with afterPset := ap, eiDelay := ei }

/-- The inputs still to come. -/
def State.setInputs (s : State) (l : List Input) : State := { s with inputs := l }

/-- What the peripheral registers hold. -/
def State.setIoRegs (s : State) (m : Memory) : State := { s with ioRegs := m }

/-- The I/O trace. -/
def State.setIoTrace (s : State) (l : List IoAccess) : State := { s with ioTrace := l }

/-- The device. -/
def State.setDev (s : State) (d : Device) : State := { s with dev := d }

/-- The count of free values drawn. -/
def State.setDraws (s : State) (n : Nat) : State := { s with draws := n }

/-- The clock count. -/
def State.setClocks (s : State) (n : Nat) : State := { s with clocks := n }

/-! ## Nibbles and bytes -/

/-- The four high-order bits of a byte. -/
def hiNibble (v : Byte) : Nibble := v.extractLsb' 4 4

/-- The four low-order bits of a byte. -/
def loNibble (v : Byte) : Nibble := v.extractLsb' 0 4

/-! ## The index registers, the stack pointer's halves, F -/

/-- X = XH:XL (00_scope.md R9). -/
def State.x (s : State) : Byte := s.xh ++ s.xl

/-- Y = YH:YL (R9). -/
def State.y (s : State) : Byte := s.yh ++ s.yl

/-- IX = XP:XH:XL, the address of MX (20_memory.md R65). -/
def State.ix (s : State) : Addr := s.xp ++ s.xh ++ s.xl

/-- IY = YP:YH:YL, the address of MY (R65). -/
def State.iy (s : State) : Addr := s.yp ++ s.yh ++ s.yl

/-- XH:XL <- v; XP unchanged. -/
def State.setX (s : State) (v : Byte) : State := (s.setXH (hiNibble v)).setXL (loNibble v)

/-- YH:YL <- v; YP unchanged. -/
def State.setY (s : State) (v : Byte) : State := (s.setYH (hiNibble v)).setYL (loNibble v)

/-- `incX(k)` of R9: XH:XL <- (XH:XL + k) mod 256; XP and the flags unchanged (10_state.md R23, R24). -/
def State.incX (s : State) (k : Byte) : State := s.setX (s.x + k)

/-- `incY(k)` of R9 (10_state.md R25). -/
def State.incY (s : State) (k : Byte) : State := s.setY (s.y + k)

/-- The address of M(X+1) in LBPX and RETD: the +1 is on X, not on IX (R65, D8; log 14). -/
def State.ixNext (s : State) : Addr := s.xp ++ (s.x + 1)

/-- The address of `M(SP)` for the stack pointer `sp`: page 0 (20_memory.md R67). -/
def stackAddr (sp : Byte) : Addr := (0 : Nibble) ++ sp

/-- The address of `Mn`: 00nH (R66). -/
def regAddr (n : Nibble) : Addr := (0 : Byte) ++ n

/-- F = I:D:Z:C (10_state.md R34). -/
def State.f (s : State) : Nibble :=
  BitVec.ofBool s.fi ++ BitVec.ofBool s.fd ++ BitVec.ofBool s.fz ++ BitVec.ofBool s.fc

/-- All four flags from a nibble in the layout of F (R34, 43_stack.md R189). -/
def State.setF (s : State) (v : Nibble) : State :=
  (((s.setI (v.getLsbD 3)).setD (v.getLsbD 2)).setZ (v.getLsbD 1)).setC (v.getLsbD 0)

/-! ## Lists of cells in canonical form -/

/-- What a list of cells holds at `a`; nothing at an unlisted address. -/
def Cells.lookup {w : Nat} : List (Nat × BitVec w) → Nat → Option (BitVec w)
  | [], _ => none
  | (b, v) :: m, a => if b = a then some v else Cells.lookup m a

/-- The list of cells with `v` at `a`, in its place in the order of addresses. -/
def Cells.insert {w : Nat} : List (Nat × BitVec w) → Nat → BitVec w → List (Nat × BitVec w)
  | [], a, v => [(a, v)]
  | (b, u) :: m, a, v =>
    if a < b then (a, v) :: (b, u) :: m
    else if a = b then (a, v) :: m
    else (b, u) :: Cells.insert m a v

/-- The canonical form: addresses strictly rising, all of them at least `lo` and below `hi`. -/
def Cells.rising {w : Nat} : List (Nat × BitVec w) → Nat → Nat → Bool
  | [], _, _ => true
  | (a, _) :: m, lo, hi => decide (lo ≤ a) && decide (a < hi) && Cells.rising m (a + 1) hi

/-- Data memory is in canonical form: addresses strictly rising, below 4096 (20_memory.md R61). A listed word is a
written word; an unlisted address has no written word, so no entry equals what an unlisted address holds. -/
def Memory.wf (m : Memory) : Bool := Cells.rising m 0 4096

/-- Program memory is in canonical form: addresses strictly rising, below 8192 (R60). -/
def Program.wf (m : List (Nat × Word)) : Bool := Cells.rising m 0 8192

/-! ## Peripheral registers: `IO_READ` and `IO_WRITE` (00_scope.md R7, 20_memory.md R73; log 6) -/

/-- What the peripheral register at `a` holds; one that the device says nothing of holds 0. -/
def ioHeld (regs : Memory) (a : Addr) : Nibble := (Cells.lookup regs a.toNat).getD 0

/-- The condition `t` holds. -/
def ioTestHolds (regs : Memory) (t : IoTest) : Bool := decide (ioHeld regs t.addr &&& t.mask = t.value)

/-- The access `c` meets rule `r`. -/
def ioMeets (regs : Memory) (c : IoAccess) (r : IoRule) : Bool :=
  (match c with
    | .read a => !r.isWrite && decide (r.addr = a)
    | .write a v => r.isWrite && decide (r.addr = a) && decide (v &&& r.mask = r.value)) &&
  r.tests.all (ioTestHolds regs)

/-- The rule that says what the access `c` does, if the device has one. -/
def ioRuleFor (io : Peripherals) (regs : Memory) (c : IoAccess) : Option IoRule := io.rules.find? (ioMeets regs c)

/-- The word an access writes; a read writes none. -/
def ioWritten : IoAccess → Nibble
  | .read _ => 0
  | .write _ v => v

/-- What one effect leaves in the registers, `v` the word written. -/
def ioEffect (v : Nibble) (regs : Memory) (e : IoEffect) : Memory :=
  Cells.insert regs e.addr.toNat ((ioHeld regs e.addr &&& e.keep) ||| (v &&& e.take) ||| e.set)

/-- What the access `c` leaves in the registers: its rule's effects one after another, nothing changed without a rule. -/
def ioAfter (io : Peripherals) (c : IoAccess) (regs : Memory) : Memory :=
  match ioRuleFor io regs c with
  | some r => r.effects.foldl (ioEffect (ioWritten c)) regs
  | none => regs

/-- Bit by bit: `held` where `known` is 1, `outside` where it is 0. -/
def pickBits (known held outside : Nibble) : Nibble :=
  let bit (j : Nat) : Bool := if known.getLsbD j then held.getLsbD j else outside.getLsbD j
  BitVec.ofBool (bit 3) ++ BitVec.ofBool (bit 2) ++ BitVec.ofBool (bit 1) ++ BitVec.ofBool (bit 0)

/-- What a read of the peripheral register at `a` answers: the bits its rule says are known from what the register holds,
the others, or all without a rule, from outside the core. -/
def State.ioAnswer (s : State) (a : Addr) : Nibble :=
  let outside := ioRead s.dev.io.model s.ioTrace s.draws a
  match ioRuleFor s.dev.io s.ioRegs (.read a) with
  | some r => pickBits r.known (ioHeld s.ioRegs a) outside
  | none => outside

/-- An I/O access is made: the registers follow, the trace records it. -/
def State.access (s : State) (c : IoAccess) : State :=
  (s.setIoRegs (ioAfter s.dev.io c s.ioRegs)).setIoTrace (c :: s.ioTrace)

/-! ## Data memory -/

/-- What `RAM_MAP` says of address `a`: the first region that holds it; absent where none does (00_scope.md R7). -/
def kindIn : List Region → Nat → AddrKind
  | [], _ => .absent
  | r :: rs, a => if r.base ≤ a ∧ a < r.base + r.size then r.kind else kindIn rs a

/-- The kind of data address `a` on this device. -/
def State.kindAt (s : State) (a : Addr) : AddrKind := kindIn s.dev.ramMap a.toNat

/-- Something answers at `a`: RAM or a peripheral register. -/
def State.present (s : State) (a : Addr) : Bool := decide (s.kindAt a ≠ .absent)

/-- The RAM word at `a`: the last value written, or, where nothing has written since reset, a free and stable value
(20_memory.md R76 "a fault or a free draw", 92_eei_decisions.md D11; log 3). -/
def State.ramWord (s : State) (a : Addr) : Nibble :=
  match Cells.lookup s.ram a.toNat with
  | some v => v
  | none => ramAtReset s.ramEpoch a

/-- What a read of `a` gives: the RAM word, or what the peripheral register answers (R73; log 6). -/
def State.word (s : State) (a : Addr) : Nibble :=
  match s.kindAt a with
  | .io => s.ioAnswer a
  | .ram | .absent => s.ramWord a

/-- What a read of `a` does: nothing to RAM; at a peripheral register it is an I/O access, with its side effects, and
draws a free value. -/
def State.touch (s : State) (a : Addr) : State :=
  match s.kindAt a with
  | .io => (s.access (.read a)).setDraws (s.draws + 1)
  | .ram | .absent => s

/-- What a write of `v` to `a` does: RAM holds it; a peripheral register takes it (log 6). -/
def State.store (s : State) (a : Addr) (v : Nibble) : State :=
  match s.kindAt a with
  | .ram => s.setRam (Cells.insert s.ram a.toNat v)
  | .io => s.access (.write a v)
  | .absent => s

/-- `MemRead(a, 1)` (00_scope.md R9, 20_memory.md R61): the word read and the state after the read. -/
def memRead (a : Addr) (s : State) : Except Fault (Nibble × State) :=
  if s.present a then .ok (s.word a, s.touch a) else .error (.absentDataAddress a)

/-- `MemWrite(a, 1, v)` (R9, R61). -/
def memWrite (a : Addr) (v : Nibble) (s : State) : Except Fault State :=
  if s.present a then .ok (s.store a v) else .error (.absentDataAddress a)

/-! ## The program counter -/

/-- The 13-bit program address PCB:PCP:PCS (10_state.md R28). -/
def State.pc (s : State) : ProgAddr := s.pcb ++ s.pcp ++ s.pcs

/-- PCP:PCS as the 12-bit counter (R29). -/
def State.counter (s : State) : BitVec 12 := s.pcp ++ s.pcs

/-- PCP:PCS <- v; PCB unchanged. -/
def State.setCounter (s : State) (v : BitVec 12) : State := s.setPC s.pcb (v.extractLsb' 8 4) (v.extractLsb' 0 8)

/-- The counter's increment: modulo 4096 in the same bank (R29, D5; log 12). -/
def State.advance (s : State) : State := s.setCounter (s.counter + 1)

/-- `PCB <- NBP; PCP <- NPP; PCS <- st`: what every taken jump does (R31). -/
def State.jumpTo (s : State) (st : Byte) : State := s.setPC s.nbp s.npp st

/-! ## The return address on the stack (40_branch.md R135) -/

/-- The push of CALL, CALZ and interrupt entry: PCP, PCSH, PCSL at SP-1, SP-2, SP-3 in that order, then SP <- SP - 3. -/
def pushReturn (s : State) : Except Fault State := do
  let s1 ← memWrite (stackAddr (s.sp - 1)) s.pcp s
  let s2 ← memWrite (stackAddr (s.sp - 2)) (hiNibble s.pcs) s1
  let s3 ← memWrite (stackAddr (s.sp - 3)) (loNibble s.pcs) s2
  .ok (s3.setSP (s3.sp - 3))

/-- The pop of RET, RETS and RETD, the return from a subroutine and from an interrupt (60_exceptions.md R312): PCSL, PCSH,
PCP from SP, SP+1, SP+2 in that order, then SP <- SP + 3; PCB unchanged. -/
def popReturn (s : State) : Except Fault State := do
  let (lo, s1) ← memRead (stackAddr s.sp) s
  let (hi, s2) ← memRead (stackAddr (s.sp + 1)) s1
  let (pg, s3) ← memRead (stackAddr (s.sp + 2)) s2
  .ok ((s3.setPC s3.pcb pg (hi ++ lo)).setSP (s3.sp + 3))

/-! ## The interrupt (60_exceptions.md R303 to R309) -/

/-- The acceptance test at an instruction boundary for a request with vector `v` (R304): I = 1, ei_delay = 0,
after_pset = 0. Vector 0 does not exist (R301; log 17). -/
def State.accepts (s : State) (v : Nibble) : Bool := decide (v ≠ 0) && s.fi && !s.eiDelay && !s.afterPset

/-- `raise Interrupt(v)` (R306): the return address is pushed, I cleared, the counter set to page 1, step `v`, NBP:NPP to
that bank and page, the core runs. Nothing else changes (R307). -/
def raiseInterrupt (v : Nibble) (s : State) : Except Fault State := do
  let s1 ← pushReturn s
  .ok (((((s1.setI false).setNext s1.pcb 1).setPC s1.pcb 1 ((0 : Nibble) ++ v)).setRun .run).setHidden false false)

/-- Initial reset from any state (70_reset_and_hazards.md R340, R344): the state of powerOn, RAM unwritten again, the
peripheral registers as the device says. The device, the inputs still to come and the model's own records (I/O trace, draws, clocks) go on. -/
def State.initialReset (s : State) : State :=
  ((((State.powerOn s.dev (s.ramEpoch + 1)).setInputs s.inputs).setIoTrace s.ioTrace).setDraws s.draws).setClocks s.clocks

/-- The instruction boundary (10_state.md R47 (3)): the next input, if there is one, is taken from the list. A request is
taken or turned away by R304; a request turned away is not lost by the core, whether it stays pending is the peripheral's
(the list says what is presented at each boundary). Reset overrides everything (60_exceptions.md R305; log 18). -/
def State.boundary (s : State) : Except Fault State :=
  match s.inputs with
  | [] => .ok s
  | .quiet :: rest => .ok (s.setInputs rest)
  | .reset :: rest => .ok (s.setInputs rest).initialReset
  | .request v :: rest =>
    if s.accepts v then raiseInterrupt v (s.setInputs rest) else .ok (s.setInputs rest)

/-- The inputs after the next reset event, if one will come. -/
def afterReset : List Input → Option (List Input)
  | [] => none
  | .reset :: rest => some rest
  | _ :: rest => afterReset rest

/-- The core stopped in state `s` for a reason of the model's own: it stays so, taking no request, until the next reset
event, which produces R340 "from any state, including ... from a model fault" (R344); where none will come, that is the
end of the run (log 18). -/
def State.stopped (s : State) (f : Fault) : Host.Outcome State Fault Refusal :=
  match afterReset s.inputs with
  | some rest => .next (s.setInputs rest).initialReset
  | none => .fault f

/-- The boundary, and what follows where interrupt entry finds no memory for the return address. -/
def State.settle (s : State) : Host.Outcome State Fault Refusal :=
  match s.boundary with
  | .ok t => .next t
  | .error f => s.stopped f

end Sys2Proof.Machine
end

