-- ==== Sys2Proof/Machine/Flags.lean ====
section
/-! DEFINITION. The ALU (46_arithmetic.md R245 to R248) and the flag computations. Sums and differences are exact (Nat,
Int) and narrowed at the end. -/

namespace Sys2Proof.Machine

open Sys2Proof.Config

/-- What the ALU gives: the 4-bit result, C, Z, and whether they are free values (R248). -/
structure AluOut where
  result : Nibble
  carry : Bool
  zero : Bool
  free : Bool
deriving DecidableEq, Repr

/-- A result with its C; Z looks at the four result bits only (10_state.md R36). -/
def AluOut.ofResult (v : Nibble) (c : Bool) : AluOut := { result := v, carry := c, zero := decide (v = 0), free := false }

/-- Both operands are decimal digits. -/
def bothDigits (x y : Nibble) : Bool := decide (x ≤ 9) && decide (y ≤ 9)

/-- Addition in hexadecimal mode: C <- t[4] (R245). -/
def addHex (x y : Nibble) (cin : Bool) : AluOut :=
  let t := x.toNat + y.toNat + cin.toNat
  .ofResult (BitVec.ofNat 4 t) (decide (16 ≤ t))

/-- Addition of decimal digits: a sum of 10 or more gives t - 10 and C = 1 (R245; PRESUMED, log 13). -/
def addDecimal (x y : Nibble) (cin : Bool) : AluOut :=
  let t := x.toNat + y.toNat + cin.toNat
  if 10 ≤ t then .ofResult (BitVec.ofNat 4 (t - 10)) true else .ofResult (BitVec.ofNat 4 t) false

/-- Subtraction in hexadecimal mode: C <- borrow (R246). -/
def subHex (x y : Nibble) (bin : Bool) : AluOut :=
  let t : Int := x.toNat - y.toNat - bin.toNat
  .ofResult (BitVec.ofInt 4 t) (decide (t < 0))

/-- Subtraction of decimal digits: a borrow gives t + 10 and C = 1 (R246; PRESUMED, log 13). -/
def subDecimal (x y : Nibble) (bin : Bool) : AluOut :=
  let t : Int := x.toNat - y.toNat - bin.toNat
  if t < 0 then .ofResult (BitVec.ofInt 4 (t + 10)) true else .ofResult (BitVec.ofInt 4 t) false

/-- Result, C and Z of a decimal operation on an operand above 9: three independent free values (R248, D3; log 9). -/
def aluFree (n : Nat) : AluOut :=
  { result := decimalResult n, carry := decimalCarry n, zero := decimalZero n, free := true }

/-- `add4`'s choice of mode (R245, R248); `n` numbers the free draw. -/
def aluAdd (x y : Nibble) (cin decimal : Bool) (n : Nat) : AluOut :=
  if decimal then if bothDigits x y then addDecimal x y cin else aluFree n else addHex x y cin

/-- `sub4`'s choice of mode (R246, R248). -/
def aluSub (x y : Nibble) (bin decimal : Bool) (n : Nat) : AluOut :=
  if decimal then if bothDigits x y then subDecimal x y bin else aluFree n else subHex x y bin

/-- C and Z as the ALU gives them; a free draw is counted. -/
def State.setAlu (s : State) (o : AluOut) : State :=
  ((s.setC o.carry).setZ o.zero).setDraws (if o.free then s.draws + 1 else s.draws)

/-- `add4(x, y, cin, dec)` of R245: the result, and the state with C and Z written. `dec` is fixed by the instruction
(R247); the D flag is the state's. -/
def add4 (x y : Nibble) (cin dec : Bool) (s : State) : Nibble × State :=
  let o := aluAdd x y cin (dec && s.fd) s.draws
  (o.result, s.setAlu o)

/-- `sub4(x, y, bin, dec)` of R246. -/
def sub4 (x y : Nibble) (bin dec : Bool) (s : State) : Nibble × State :=
  let o := aluSub x y bin (dec && s.fd) s.draws
  (o.result, s.setAlu o)

/-- A logical result: Z <- (result = 0), no other flag (46_arithmetic.md section 4). -/
def logic4 (v : Nibble) (s : State) : Nibble × State := (v, s.setZ (decide (v = 0)))

/-- Z after RLC or RRC with result `v`, per `RLC_RRC_WRITE_Z` (10_state.md R36, 90_conflicts.md C1; log 10). -/
def State.rotateZ (s : State) (v : Nibble) : State :=
  match s.dev.rotateZ with
  | .keeps => s
  | .writes => s.setZ (decide (v = 0))
  | .either => (s.setZ (if rotateWritesZ s.draws then decide (v = 0) else s.fz)).setDraws (s.draws + 1)

/-- RLC's operation (R267): the word shifts left, C enters at bit 0, bit 3 leaves into C. -/
def rotateLeft4 (v : Nibble) (s : State) : Nibble × State :=
  let r : Nibble := v.extractLsb' 0 3 ++ BitVec.ofBool s.fc
  (r, (s.setC (v.getLsbD 3)).rotateZ r)

/-- RRC's operation (R268): the word shifts right, C enters at bit 3, bit 0 leaves into C. -/
def rotateRight4 (v : Nibble) (s : State) : Nibble × State :=
  let r : Nibble := BitVec.ofBool s.fc ++ v.extractLsb' 1 3
  (r, (s.setC (v.getLsbD 0)).rotateZ r)

/-- `F <- F or i` (42_flag.md R150). -/
def State.orFlags (s : State) (i : Nibble) : State :=
  (((s.setI (s.fi || i.getLsbD 3)).setD (s.fd || i.getLsbD 2)).setZ (s.fz || i.getLsbD 1)).setC (s.fc || i.getLsbD 0)

/-- `F <- F and i` (R151). -/
def State.andFlags (s : State) (i : Nibble) : State :=
  (((s.setI (s.fi && i.getLsbD 3)).setD (s.fd && i.getLsbD 2)).setZ (s.fz && i.getLsbD 1)).setC (s.fc && i.getLsbD 0)

end Sys2Proof.Machine
end

