-- ==== Sys2Proof/Machine/Operands.lean ====
section
/-! DEFINITION. The operands `x[r]`, `x[q]` and `Mn` (00_scope.md R9, 20_memory.md R64 to R67), and the shapes of
instructions over them: read then write, read-modify-write, compare, push, pop (20_memory.md R71). -/

namespace Sys2Proof.Machine

open Sys2Proof.Config

/-- The data address a selector names, if it names one. -/
def State.selAddr (s : State) (r : Sel) : Option Addr :=
  match r with
  | .a | .b => none
  | .mx => some s.ix
  | .my => some s.iy

/-- The operand answers: a register, or a data address with something behind it. -/
def State.selPresent (s : State) (r : Sel) : Bool :=
  match r with
  | .a | .b => true
  | .mx => s.present s.ix
  | .my => s.present s.iy

/-- `x[r]` as a value (R9). -/
def State.sel (s : State) (r : Sel) : Nibble :=
  match r with
  | .a => s.a
  | .b => s.b
  | .mx => s.word s.ix
  | .my => s.word s.iy

/-- What reading `x[r]` does to the state: nothing, but at a peripheral register. -/
def State.touchSel (s : State) (r : Sel) : State :=
  match r with
  | .a | .b => s
  | .mx => s.touch s.ix
  | .my => s.touch s.iy

/-- `x[r] <- v` (R9). -/
def State.putSel (s : State) (r : Sel) (v : Nibble) : State :=
  match r with
  | .a => s.setA v
  | .b => s.setB v
  | .mx => s.store s.ix v
  | .my => s.store s.iy v

/-- Reading `x[r]`. -/
def readSel (r : Sel) (s : State) : Except Fault (Nibble × State) :=
  match r with
  | .a => .ok (s.a, s)
  | .b => .ok (s.b, s)
  | .mx => memRead s.ix s
  | .my => memRead s.iy s

/-- Writing `x[r]`. -/
def writeSel (r : Sel) (v : Nibble) (s : State) : Except Fault State :=
  match r with
  | .a => .ok (s.setA v)
  | .b => .ok (s.setB v)
  | .mx => memWrite s.ix v s
  | .my => memWrite s.iy v s

/-- `x[r] <- x[q]`: the source is read once, then the destination written (45_data_transfer.md R239). -/
def moveSel (r q : Sel) (s : State) : Except Fault State := do
  let (v, s1) ← readSel q s
  writeSel r v s1

/-- `x[r] <- op(x[r])`: one read and one write of `r` (46_arithmetic.md R249). -/
def modifySel (r : Sel) (op : Nibble → State → Nibble × State) (s : State) : Except Fault State := do
  let (v, s1) ← readSel r s
  let (w, s2) := op v s1
  writeSel r w s2

/-- `x[r] <- op(x[r], x[q])`: `r` is read, then `q`, then `r` is written (R71, D10; log 15). DESIGN CHOICE (log 23): where
both name one peripheral register it is read twice, and the two values may differ. -/
def combineSel (r q : Sel) (op : Nibble → Nibble → State → Nibble × State) (s : State) : Except Fault State := do
  let (v, s1) ← readSel r s
  let (u, s2) ← readSel q s1
  let (w, s3) := op v u s2
  writeSel r w s3

/-- `discard op(x[r])`: the compare and test forms read and do not write (R249). -/
def testSel (r : Sel) (op : Nibble → State → Nibble × State) (s : State) : Except Fault State := do
  let (v, s1) ← readSel r s
  .ok (op v s1).2

/-- `discard op(x[r], x[q])`. DESIGN CHOICE (log 23): where both name one peripheral register it is read twice, and the two
values may differ. -/
def testSel2 (r q : Sel) (op : Nibble → Nibble → State → Nibble × State) (s : State) : Except Fault State := do
  let (v, s1) ← readSel r s
  let (u, s2) ← readSel q s1
  .ok (op v u s2).2

/-- `M(a) <- op(M(a), x[r])` of ACPX, ACPY, SCPX, SCPY, in the order of R71: M(a), then `r`, then the write (log 15).
DESIGN CHOICE (log 23): where `r` names the peripheral register at `a` it is read twice, and the two values may differ. -/
def combineMem (a : Addr) (r : Sel) (op : Nibble → Nibble → State → Nibble × State) (s : State) : Except Fault State := do
  let (v, s1) ← memRead a s
  let (u, s2) ← readSel r s1
  let (w, s3) := op v u s2
  memWrite a w s3

/-- `M(n) <- op(M(n))` of INC Mn and DEC Mn, with RP <- n (10_state.md R27). -/
def modifyMn (n : Nibble) (op : Nibble → State → Nibble × State) (s : State) : Except Fault State := do
  let (v, s1) ← memRead (regAddr n) (s.setRP n)
  let (w, s2) := op v s1
  memWrite (regAddr n) w s2

/-- A push: SP <- SP - 1, then M(SP) <- v (43_stack.md R187). -/
def push (v : Nibble) (s : State) : Except Fault State :=
  let s1 := s.setSP (s.sp - 1)
  memWrite (stackAddr s1.sp) v s1

/-- A pop: the word at M(SP), then SP <- SP + 1 (R187). -/
def pop (s : State) : Except Fault (Nibble × State) := do
  let (v, s1) ← memRead (stackAddr s.sp) s
  .ok (v, s1.setSP (s1.sp + 1))

/-- The store of LBPX and RETD: M(X) <- e[3:0], M(X+1) <- e[7:4], then X <- X + 2 (R235, R131; D8, log 14). -/
def storePairX (e : Byte) (s : State) : Except Fault State := do
  let s1 ← memWrite s.ix (loNibble e) s
  let s2 ← memWrite s.ixNext (hiNibble e) s1
  .ok (s2.incX 2)

end Sys2Proof.Machine
end

