-- ==== Sys2Proof/Machine/Arithmetic.lean ====
section
/-! DEFINITION. Arithmetic and logical instructions (46_arithmetic.md R245 to R275). -/

namespace Sys2Proof.Machine

/-- ADD r,i (R250). -/
def execAddRI (r : Sel) (i : Nibble) (s : State) : Host.Outcome State Fault Refusal :=
  complete (modifySel r (fun v s1 => add4 v i false true s1) s)

/-- ADD r,q (R251). -/
def execAddRQ (r : Sel) (q : Sel) (s : State) : Host.Outcome State Fault Refusal :=
  complete (combineSel r q (fun v u s2 => add4 v u false true s2) s)

/-- ADC r,i (R252). -/
def execAdcRI (r : Sel) (i : Nibble) (s : State) : Host.Outcome State Fault Refusal :=
  complete (modifySel r (fun v s1 => add4 v i s1.fc true s1) s)

/-- ADC r,q (R253). -/
def execAdcRQ (r : Sel) (q : Sel) (s : State) : Host.Outcome State Fault Refusal :=
  complete (combineSel r q (fun v u s2 => add4 v u s2.fc true s2) s)

/-- SUB r,q (R254). -/
def execSubRQ (r : Sel) (q : Sel) (s : State) : Host.Outcome State Fault Refusal :=
  complete (combineSel r q (fun v u s2 => sub4 v u false true s2) s)

/-- SBC r,i (R255). -/
def execSbcRI (r : Sel) (i : Nibble) (s : State) : Host.Outcome State Fault Refusal :=
  complete (modifySel r (fun v s1 => sub4 v i s1.fc true s1) s)

/-- SBC r,q (R256). -/
def execSbcRQ (r : Sel) (q : Sel) (s : State) : Host.Outcome State Fault Refusal :=
  complete (combineSel r q (fun v u s2 => sub4 v u s2.fc true s2) s)

/-- AND r,i (R257). -/
def execAndRI (r : Sel) (i : Nibble) (s : State) : Host.Outcome State Fault Refusal :=
  complete (modifySel r (fun v s1 => logic4 (v &&& i) s1) s)

/-- AND r,q (R258). -/
def execAndRQ (r : Sel) (q : Sel) (s : State) : Host.Outcome State Fault Refusal :=
  complete (combineSel r q (fun v u s2 => logic4 (v &&& u) s2) s)

/-- OR r,i (R259). -/
def execOrRI (r : Sel) (i : Nibble) (s : State) : Host.Outcome State Fault Refusal :=
  complete (modifySel r (fun v s1 => logic4 (v ||| i) s1) s)

/-- OR r,q (R260). -/
def execOrRQ (r : Sel) (q : Sel) (s : State) : Host.Outcome State Fault Refusal :=
  complete (combineSel r q (fun v u s2 => logic4 (v ||| u) s2) s)

/-- XOR r,i (R261). -/
def execXorRI (r : Sel) (i : Nibble) (s : State) : Host.Outcome State Fault Refusal :=
  complete (modifySel r (fun v s1 => logic4 (v ^^^ i) s1) s)

/-- XOR r,q (R262). -/
def execXorRQ (r : Sel) (q : Sel) (s : State) : Host.Outcome State Fault Refusal :=
  complete (combineSel r q (fun v u s2 => logic4 (v ^^^ u) s2) s)

/-- CP r,i (R263): not decimal-corrected, C in ignored. -/
def execCpRI (r : Sel) (i : Nibble) (s : State) : Host.Outcome State Fault Refusal :=
  complete (testSel r (fun v s1 => sub4 v i false false s1) s)

/-- CP r,q (R264). -/
def execCpRQ (r : Sel) (q : Sel) (s : State) : Host.Outcome State Fault Refusal :=
  complete (testSel2 r q (fun v u s2 => sub4 v u false false s2) s)

/-- FAN r,i (R265): only Z. -/
def execFanRI (r : Sel) (i : Nibble) (s : State) : Host.Outcome State Fault Refusal :=
  complete (testSel r (fun v s1 => logic4 (v &&& i) s1) s)

/-- FAN r,q (R266). -/
def execFanRQ (r : Sel) (q : Sel) (s : State) : Host.Outcome State Fault Refusal :=
  complete (testSel2 r q (fun v u s2 => logic4 (v &&& u) s2) s)

/-- RLC r (R267). -/
def execRlc (r : Sel) (s : State) : Host.Outcome State Fault Refusal :=
  complete (modifySel r rotateLeft4 s)

/-- RRC r (R268). -/
def execRrc (r : Sel) (s : State) : Host.Outcome State Fault Refusal :=
  complete (modifySel r rotateRight4 s)

/-- INC Mn (R269): never decimal-corrected. -/
def execIncMn (n : Nibble) (s : State) : Host.Outcome State Fault Refusal :=
  complete (modifyMn n (fun v s1 => add4 v 1 false false s1) s)

/-- DEC Mn (R270): never decimal-corrected. -/
def execDecMn (n : Nibble) (s : State) : Host.Outcome State Fault Refusal :=
  complete (modifyMn n (fun v s1 => sub4 v 1 false false s1) s)

/-- ACPX MX,r (R271). -/
def execAcpx (r : Sel) (s : State) : Host.Outcome State Fault Refusal :=
  complete (do let s1 ← combineMem s.ix r (fun v u s2 => add4 v u s2.fc true s2) s; .ok (s1.incX 1))

/-- ACPY MY,r (R272). -/
def execAcpy (r : Sel) (s : State) : Host.Outcome State Fault Refusal :=
  complete (do let s1 ← combineMem s.iy r (fun v u s2 => add4 v u s2.fc true s2) s; .ok (s1.incY 1))

/-- SCPX MX,r (R273). -/
def execScpx (r : Sel) (s : State) : Host.Outcome State Fault Refusal :=
  complete (do let s1 ← combineMem s.ix r (fun v u s2 => sub4 v u s2.fc true s2) s; .ok (s1.incX 1))

/-- SCPY MY,r (R274). -/
def execScpy (r : Sel) (s : State) : Host.Outcome State Fault Refusal :=
  complete (do let s1 ← combineMem s.iy r (fun v u s2 => sub4 v u s2.fc true s2) s; .ok (s1.incY 1))

/-- NOT r (R275). -/
def execNotR (r : Sel) (s : State) : Host.Outcome State Fault Refusal :=
  complete (modifySel r (fun v s1 => logic4 (~~~v) s1) s)

end Sys2Proof.Machine
end

