-- ==== Sys2Proof/Machine/Branch.lean ====
section
/-! DEFINITION. Branch instructions (40_branch.md R120 to R135). The counter already holds the address after the instruction, NBP:NPP
what R33 says. None reads a flag but its condition, none writes one (R132). -/

namespace Sys2Proof.Machine

/-- PSET p (R120): NBP <- p[4], NPP <- p[3:0]. -/
def execPset (p : BitVec 5) (s : State) : Host.Outcome State Fault Refusal :=
  complete (.ok (s.setNext (p.extractLsb' 4 1) (p.extractLsb' 0 4)))

/-- JP s (R121). -/
def execJp (d : Byte) (s : State) : Host.Outcome State Fault Refusal :=
  complete (.ok (s.jumpTo d))

/-- JP C,s (R122). -/
def execJpC (d : Byte) (s : State) : Host.Outcome State Fault Refusal :=
  complete (.ok (if s.fc then s.jumpTo d else s))

/-- JP NC,s (R123). -/
def execJpNC (d : Byte) (s : State) : Host.Outcome State Fault Refusal :=
  complete (.ok (if s.fc then s else s.jumpTo d))

/-- JP Z,s (R124). -/
def execJpZ (d : Byte) (s : State) : Host.Outcome State Fault Refusal :=
  complete (.ok (if s.fz then s.jumpTo d else s))

/-- JP NZ,s (R125). -/
def execJpNZ (d : Byte) (s : State) : Host.Outcome State Fault Refusal :=
  complete (.ok (if s.fz then s else s.jumpTo d))

/-- JPBA (R126): PCSH <- B, PCSL <- A. -/
def execJpba (s : State) : Host.Outcome State Fault Refusal :=
  complete (.ok (s.jumpTo (s.b ++ s.a)))

/-- CALL s (R127): the return address is pushed, PCP <- NPP, PCS <- s, PCB unchanged (R134). -/
def execCall (d : Byte) (s : State) : Host.Outcome State Fault Refusal :=
  complete (do let s1 ← pushReturn s; .ok (s1.setPC s1.pcb s1.npp d))

/-- CALZ s (R128): page 0 of the current bank. -/
def execCalz (d : Byte) (s : State) : Host.Outcome State Fault Refusal :=
  complete (do let s1 ← pushReturn s; .ok (s1.setPC s1.pcb 0 d))

/-- RET (R129). -/
def execRet (s : State) : Host.Outcome State Fault Refusal :=
  complete (popReturn s)

/-- RETS (R130): RET, then the 12-bit counter advances by one (D5). -/
def execRets (s : State) : Host.Outcome State Fault Refusal :=
  complete (do let s1 ← popReturn s; .ok s1.advance)

/-- RETD e (R131): the pop, then M(X), M(X+1) <- e, X <- X + 2. -/
def execRetd (e : Byte) (s : State) : Host.Outcome State Fault Refusal :=
  complete (do let s1 ← popReturn s; storePairX e s1)

end Sys2Proof.Machine
end

