-- ==== Sys2Proof/Machine/FlagControl.lean ====
section
/-! DEFINITION. Flag instructions (42_flag.md R150 to R161). The delay of interrupt enabling (R160) is the bookkeeping at the end of the
step (Machine/Cycle.lean). -/

namespace Sys2Proof.Machine

/-- SET F,i (R150). -/
def execSetF (i : Nibble) (s : State) : Host.Outcome State Fault Refusal :=
  complete (.ok (s.orFlags i))

/-- RST F,i (R151). -/
def execRstF (i : Nibble) (s : State) : Host.Outcome State Fault Refusal :=
  complete (.ok (s.andFlags i))

/-- SCF (R152). -/
def execScf (s : State) : Host.Outcome State Fault Refusal :=
  complete (.ok (s.setC true))

/-- RCF (R153). -/
def execRcf (s : State) : Host.Outcome State Fault Refusal :=
  complete (.ok (s.setC false))

/-- SZF (R154). -/
def execSzf (s : State) : Host.Outcome State Fault Refusal :=
  complete (.ok (s.setZ true))

/-- RZF (R155). -/
def execRzf (s : State) : Host.Outcome State Fault Refusal :=
  complete (.ok (s.setZ false))

/-- SDF (R156). -/
def execSdf (s : State) : Host.Outcome State Fault Refusal :=
  complete (.ok (s.setD true))

/-- RDF (R157). -/
def execRdf (s : State) : Host.Outcome State Fault Refusal :=
  complete (.ok (s.setD false))

/-- EI (R158). -/
def execEi (s : State) : Host.Outcome State Fault Refusal :=
  complete (.ok (s.setI true))

/-- DI (R159). -/
def execDi (s : State) : Host.Outcome State Fault Refusal :=
  complete (.ok (s.setI false))

end Sys2Proof.Machine
end

