-- ==== Sys2Proof/Machine/Index.lean ====
section
/-! DEFINITION. Index register instructions (44_index.md R195 to R222). -/

namespace Sys2Proof.Machine

/-- INC X (R195). -/
def execIncX (s : State) : Host.Outcome State Fault Refusal :=
  complete (.ok (s.incX 1))

/-- INC Y (R196). -/
def execIncY (s : State) : Host.Outcome State Fault Refusal :=
  complete (.ok (s.incY 1))

/-- LD X,e (R197): XH <- e[7:4], XL <- e[3:0], XP unchanged. -/
def execLdXE (e : Byte) (s : State) : Host.Outcome State Fault Refusal :=
  complete (.ok (s.setX e))

/-- LD Y,e (R198). -/
def execLdYE (e : Byte) (s : State) : Host.Outcome State Fault Refusal :=
  complete (.ok (s.setY e))

/-- LD XP,r (R199). -/
def execLdXPR (r : Sel) (s : State) : Host.Outcome State Fault Refusal :=
  complete (do let (v, s1) ← readSel r s; .ok (s1.setXP v))

/-- LD XH,r (R200). -/
def execLdXHR (r : Sel) (s : State) : Host.Outcome State Fault Refusal :=
  complete (do let (v, s1) ← readSel r s; .ok (s1.setXH v))

/-- LD XL,r (R201). -/
def execLdXLR (r : Sel) (s : State) : Host.Outcome State Fault Refusal :=
  complete (do let (v, s1) ← readSel r s; .ok (s1.setXL v))

/-- LD YP,r (R202). -/
def execLdYPR (r : Sel) (s : State) : Host.Outcome State Fault Refusal :=
  complete (do let (v, s1) ← readSel r s; .ok (s1.setYP v))

/-- LD YH,r (R203). -/
def execLdYHR (r : Sel) (s : State) : Host.Outcome State Fault Refusal :=
  complete (do let (v, s1) ← readSel r s; .ok (s1.setYH v))

/-- LD YL,r (R204). -/
def execLdYLR (r : Sel) (s : State) : Host.Outcome State Fault Refusal :=
  complete (do let (v, s1) ← readSel r s; .ok (s1.setYL v))

/-- LD r,XP (R205). -/
def execLdRXP (r : Sel) (s : State) : Host.Outcome State Fault Refusal :=
  complete (writeSel r s.xp s)

/-- LD r,XH (R206): stored at the unchanged index (R221). -/
def execLdRXH (r : Sel) (s : State) : Host.Outcome State Fault Refusal :=
  complete (writeSel r s.xh s)

/-- LD r,XL (R207): stored at the unchanged index (R221). -/
def execLdRXL (r : Sel) (s : State) : Host.Outcome State Fault Refusal :=
  complete (writeSel r s.xl s)

/-- LD r,YP (R208). -/
def execLdRYP (r : Sel) (s : State) : Host.Outcome State Fault Refusal :=
  complete (writeSel r s.yp s)

/-- LD r,YH (R209): stored at the unchanged index (R221). -/
def execLdRYH (r : Sel) (s : State) : Host.Outcome State Fault Refusal :=
  complete (writeSel r s.yh s)

/-- LD r,YL (R210): stored at the unchanged index (R221). -/
def execLdRYL (r : Sel) (s : State) : Host.Outcome State Fault Refusal :=
  complete (writeSel r s.yl s)

/-- ADC XH,i (R211): never decimal-corrected (R220). -/
def execAdcXHI (i : Nibble) (s : State) : Host.Outcome State Fault Refusal :=
  let (v, s1) := add4 s.xh i s.fc false s
  complete (.ok (s1.setXH v))

/-- ADC XL,i (R212): never decimal-corrected (R220). -/
def execAdcXLI (i : Nibble) (s : State) : Host.Outcome State Fault Refusal :=
  let (v, s1) := add4 s.xl i s.fc false s
  complete (.ok (s1.setXL v))

/-- ADC YH,i (R213): never decimal-corrected (R220). -/
def execAdcYHI (i : Nibble) (s : State) : Host.Outcome State Fault Refusal :=
  let (v, s1) := add4 s.yh i s.fc false s
  complete (.ok (s1.setYH v))

/-- ADC YL,i (R214): never decimal-corrected (R220). -/
def execAdcYLI (i : Nibble) (s : State) : Host.Outcome State Fault Refusal :=
  let (v, s1) := add4 s.yl i s.fc false s
  complete (.ok (s1.setYL v))

/-- CP XH,i (R215): the result is discarded. -/
def execCpXHI (i : Nibble) (s : State) : Host.Outcome State Fault Refusal :=
  complete (.ok (sub4 s.xh i false false s).2)

/-- CP XL,i (R216): the result is discarded. -/
def execCpXLI (i : Nibble) (s : State) : Host.Outcome State Fault Refusal :=
  complete (.ok (sub4 s.xl i false false s).2)

/-- CP YH,i (R217): the result is discarded. -/
def execCpYHI (i : Nibble) (s : State) : Host.Outcome State Fault Refusal :=
  complete (.ok (sub4 s.yh i false false s).2)

/-- CP YL,i (R218): the result is discarded. -/
def execCpYLI (i : Nibble) (s : State) : Host.Outcome State Fault Refusal :=
  complete (.ok (sub4 s.yl i false false s).2)

end Sys2Proof.Machine
end

