-- ==== Sys2Proof/Machine/Stack.lean ====
section
/-! DEFINITION. Stack instructions (43_stack.md R165 to R190). -/

namespace Sys2Proof.Machine

/-- PUSH r (R165): the source is read first (R188, D10). -/
def execPushR (r : Sel) (s : State) : Host.Outcome State Fault Refusal :=
  complete (do let (v, s1) ← readSel r s; push v s1)

/-- PUSH XP (R166). -/
def execPushXP (s : State) : Host.Outcome State Fault Refusal :=
  complete (push s.xp s)

/-- PUSH XH (R167). -/
def execPushXH (s : State) : Host.Outcome State Fault Refusal :=
  complete (push s.xh s)

/-- PUSH XL (R168). -/
def execPushXL (s : State) : Host.Outcome State Fault Refusal :=
  complete (push s.xl s)

/-- PUSH YP (R169). -/
def execPushYP (s : State) : Host.Outcome State Fault Refusal :=
  complete (push s.yp s)

/-- PUSH YH (R170). -/
def execPushYH (s : State) : Host.Outcome State Fault Refusal :=
  complete (push s.yh s)

/-- PUSH YL (R171). -/
def execPushYL (s : State) : Host.Outcome State Fault Refusal :=
  complete (push s.yl s)

/-- PUSH F (R172). The word is I:D:Z:C (R189). -/
def execPushF (s : State) : Host.Outcome State Fault Refusal :=
  complete (push s.f s)

/-- POP r (R173): M(SP) is read, SP incremented, then the destination written (R188, D10). -/
def execPopR (r : Sel) (s : State) : Host.Outcome State Fault Refusal :=
  complete (do let (v, s1) ← pop s; writeSel r v s1)

/-- POP XP (R174). -/
def execPopXP (s : State) : Host.Outcome State Fault Refusal :=
  complete (do let (v, s1) ← pop s; .ok (s1.setXP v))

/-- POP XH (R175). -/
def execPopXH (s : State) : Host.Outcome State Fault Refusal :=
  complete (do let (v, s1) ← pop s; .ok (s1.setXH v))

/-- POP XL (R176). -/
def execPopXL (s : State) : Host.Outcome State Fault Refusal :=
  complete (do let (v, s1) ← pop s; .ok (s1.setXL v))

/-- POP YP (R177). -/
def execPopYP (s : State) : Host.Outcome State Fault Refusal :=
  complete (do let (v, s1) ← pop s; .ok (s1.setYP v))

/-- POP YH (R178). -/
def execPopYH (s : State) : Host.Outcome State Fault Refusal :=
  complete (do let (v, s1) ← pop s; .ok (s1.setYH v))

/-- POP YL (R179). -/
def execPopYL (s : State) : Host.Outcome State Fault Refusal :=
  complete (do let (v, s1) ← pop s; .ok (s1.setYL v))

/-- POP F (R180). All four flags (R189); the delay of D9 is the bookkeeping's. -/
def execPopF (s : State) : Host.Outcome State Fault Refusal :=
  complete (do let (v, s1) ← pop s; .ok (s1.setF v))

/-- INC SP (R181): modulo 256 (D6; log 12). -/
def execIncSP (s : State) : Host.Outcome State Fault Refusal :=
  complete (.ok (s.setSP (s.sp + 1)))

/-- DEC SP (R182). -/
def execDecSP (s : State) : Host.Outcome State Fault Refusal :=
  complete (.ok (s.setSP (s.sp - 1)))

/-- LD SPH,r (R183): SP[3:0] unchanged. -/
def execLdSPHR (r : Sel) (s : State) : Host.Outcome State Fault Refusal :=
  complete (do let (v, s1) ← readSel r s; .ok (s1.setSP (v ++ loNibble s1.sp)))

/-- LD SPL,r (R184): SP[7:4] unchanged. -/
def execLdSPLR (r : Sel) (s : State) : Host.Outcome State Fault Refusal :=
  complete (do let (v, s1) ← readSel r s; .ok (s1.setSP (hiNibble s1.sp ++ v)))

/-- LD r,SPH (R185). -/
def execLdRSPH (r : Sel) (s : State) : Host.Outcome State Fault Refusal :=
  complete (writeSel r (hiNibble s.sp) s)

/-- LD r,SPL (R186). -/
def execLdRSPL (r : Sel) (s : State) : Host.Outcome State Fault Refusal :=
  complete (writeSel r (loNibble s.sp) s)

end Sys2Proof.Machine
end

