-- ==== Sys2Proof/Machine/SystemControl.lean ====
section
/-! DEFINITION. System control instructions (41_system_control.md R140 to R145). -/

namespace Sys2Proof.Machine

/-- NOP5 (R140). -/
def execNop5 (s : State) : Host.Outcome State Fault Refusal :=
  complete (.ok s)

/-- NOP7 (R141). -/
def execNop7 (s : State) : Host.Outcome State Fault Refusal :=
  complete (.ok s)

/-- HALT (R142): nothing is pushed now (90_conflicts.md C4). -/
def execHalt (s : State) : Host.Outcome State Fault Refusal :=
  complete (.ok (s.setRun .halt))

/-- SLP (R143). -/
def execSlp (s : State) : Host.Outcome State Fault Refusal :=
  complete (.ok (s.setRun .sleep))

end Sys2Proof.Machine
end

