-- ==== Sys2Proof/Machine/Transfer.lean ====
section
/-! DEFINITION. Data transfer instructions (45_data_transfer.md R225 to R240). None writes a flag (R236). -/

namespace Sys2Proof.Machine

/-- LD r,i (R225). -/
def execLdRI (r : Sel) (i : Nibble) (s : State) : Host.Outcome State Fault Refusal :=
  complete (writeSel r i s)

/-- LD r,q (R226). -/
def execLdRQ (r : Sel) (q : Sel) (s : State) : Host.Outcome State Fault Refusal :=
  complete (moveSel r q s)

/-- LD A,Mn (R227); RP <- n (10_state.md R27). -/
def execLdAMn (n : Nibble) (s : State) : Host.Outcome State Fault Refusal :=
  complete (do let (v, s1) ← memRead (regAddr n) (s.setRP n); .ok (s1.setA v))

/-- LD B,Mn (R228); RP <- n. -/
def execLdBMn (n : Nibble) (s : State) : Host.Outcome State Fault Refusal :=
  complete (do let (v, s1) ← memRead (regAddr n) (s.setRP n); .ok (s1.setB v))

/-- LD Mn,A (R229); RP <- n. -/
def execLdMnA (n : Nibble) (s : State) : Host.Outcome State Fault Refusal :=
  complete (memWrite (regAddr n) s.a (s.setRP n))

/-- LD Mn,B (R230); RP <- n. -/
def execLdMnB (n : Nibble) (s : State) : Host.Outcome State Fault Refusal :=
  complete (memWrite (regAddr n) s.b (s.setRP n))

/-- LDPX MX,i (R231); the transfer is PRESUMED (log 11). -/
def execLdpxMXI (i : Nibble) (s : State) : Host.Outcome State Fault Refusal :=
  complete (do let s1 ← memWrite s.ix i s; .ok (s1.incX 1))

/-- LDPX r,q (R232): MX and MY at the index values before the increment (R237); the transfer is PRESUMED (log 11). -/
def execLdpxRQ (r : Sel) (q : Sel) (s : State) : Host.Outcome State Fault Refusal :=
  complete (do let s1 ← moveSel r q s; .ok (s1.incX 1))

/-- LDPY MY,i (R233); the transfer is PRESUMED (log 11). -/
def execLdpyMYI (i : Nibble) (s : State) : Host.Outcome State Fault Refusal :=
  complete (do let s1 ← memWrite s.iy i s; .ok (s1.incY 1))

/-- LDPY r,q (R234); the transfer is PRESUMED (log 11). -/
def execLdpyRQ (r : Sel) (q : Sel) (s : State) : Host.Outcome State Fault Refusal :=
  complete (do let s1 ← moveSel r q s; .ok (s1.incY 1))

/-- LBPX MX,e (R235). -/
def execLbpx (e : Byte) (s : State) : Host.Outcome State Fault Refusal :=
  complete (storePairX e s)

end Sys2Proof.Machine
end

