-- ==== Sys2Proof/Machine/Dispatch.lean ====
section
/-! DEFINITION. The meaning of each instruction: one direct call an arm. -/

namespace Sys2Proof.Machine

def exec (i : Instr) (s : State) : Host.Outcome State Fault Refusal :=
  match i with
  | .pset p => Sys2Proof.Machine.execPset p s
  | .jp d => Sys2Proof.Machine.execJp d s
  | .jpC d => Sys2Proof.Machine.execJpC d s
  | .jpNC d => Sys2Proof.Machine.execJpNC d s
  | .jpZ d => Sys2Proof.Machine.execJpZ d s
  | .jpNZ d => Sys2Proof.Machine.execJpNZ d s
  | .jpba => Sys2Proof.Machine.execJpba s
  | .call d => Sys2Proof.Machine.execCall d s
  | .calz d => Sys2Proof.Machine.execCalz d s
  | .ret => Sys2Proof.Machine.execRet s
  | .rets => Sys2Proof.Machine.execRets s
  | .retd e => Sys2Proof.Machine.execRetd e s
  | .nop5 => Sys2Proof.Machine.execNop5 s
  | .nop7 => Sys2Proof.Machine.execNop7 s
  | .halt => Sys2Proof.Machine.execHalt s
  | .slp => Sys2Proof.Machine.execSlp s
  | .setF k => Sys2Proof.Machine.execSetF k s
  | .rstF k => Sys2Proof.Machine.execRstF k s
  | .scf => Sys2Proof.Machine.execScf s
  | .rcf => Sys2Proof.Machine.execRcf s
  | .szf => Sys2Proof.Machine.execSzf s
  | .rzf => Sys2Proof.Machine.execRzf s
  | .sdf => Sys2Proof.Machine.execSdf s
  | .rdf => Sys2Proof.Machine.execRdf s
  | .ei => Sys2Proof.Machine.execEi s
  | .di => Sys2Proof.Machine.execDi s
  | .pushR r => Sys2Proof.Machine.execPushR r s
  | .pushXP => Sys2Proof.Machine.execPushXP s
  | .pushXH => Sys2Proof.Machine.execPushXH s
  | .pushXL => Sys2Proof.Machine.execPushXL s
  | .pushYP => Sys2Proof.Machine.execPushYP s
  | .pushYH => Sys2Proof.Machine.execPushYH s
  | .pushYL => Sys2Proof.Machine.execPushYL s
  | .pushF => Sys2Proof.Machine.execPushF s
  | .popR r => Sys2Proof.Machine.execPopR r s
  | .popXP => Sys2Proof.Machine.execPopXP s
  | .popXH => Sys2Proof.Machine.execPopXH s
  | .popXL => Sys2Proof.Machine.execPopXL s
  | .popYP => Sys2Proof.Machine.execPopYP s
  | .popYH => Sys2Proof.Machine.execPopYH s
  | .popYL => Sys2Proof.Machine.execPopYL s
  | .popF => Sys2Proof.Machine.execPopF s
  | .incSP => Sys2Proof.Machine.execIncSP s
  | .decSP => Sys2Proof.Machine.execDecSP s
  | .ldSPHR r => Sys2Proof.Machine.execLdSPHR r s
  | .ldSPLR r => Sys2Proof.Machine.execLdSPLR r s
  | .ldRSPH r => Sys2Proof.Machine.execLdRSPH r s
  | .ldRSPL r => Sys2Proof.Machine.execLdRSPL r s
  | .incX => Sys2Proof.Machine.execIncX s
  | .incY => Sys2Proof.Machine.execIncY s
  | .ldXE e => Sys2Proof.Machine.execLdXE e s
  | .ldYE e => Sys2Proof.Machine.execLdYE e s
  | .ldXPR r => Sys2Proof.Machine.execLdXPR r s
  | .ldXHR r => Sys2Proof.Machine.execLdXHR r s
  | .ldXLR r => Sys2Proof.Machine.execLdXLR r s
  | .ldYPR r => Sys2Proof.Machine.execLdYPR r s
  | .ldYHR r => Sys2Proof.Machine.execLdYHR r s
  | .ldYLR r => Sys2Proof.Machine.execLdYLR r s
  | .ldRXP r => Sys2Proof.Machine.execLdRXP r s
  | .ldRXH r => Sys2Proof.Machine.execLdRXH r s
  | .ldRXL r => Sys2Proof.Machine.execLdRXL r s
  | .ldRYP r => Sys2Proof.Machine.execLdRYP r s
  | .ldRYH r => Sys2Proof.Machine.execLdRYH r s
  | .ldRYL r => Sys2Proof.Machine.execLdRYL r s
  | .adcXHI k => Sys2Proof.Machine.execAdcXHI k s
  | .adcXLI k => Sys2Proof.Machine.execAdcXLI k s
  | .adcYHI k => Sys2Proof.Machine.execAdcYHI k s
  | .adcYLI k => Sys2Proof.Machine.execAdcYLI k s
  | .cpXHI k => Sys2Proof.Machine.execCpXHI k s
  | .cpXLI k => Sys2Proof.Machine.execCpXLI k s
  | .cpYHI k => Sys2Proof.Machine.execCpYHI k s
  | .cpYLI k => Sys2Proof.Machine.execCpYLI k s
  | .ldRI r k => Sys2Proof.Machine.execLdRI r k s
  | .ldRQ r q => Sys2Proof.Machine.execLdRQ r q s
  | .ldAMn n => Sys2Proof.Machine.execLdAMn n s
  | .ldBMn n => Sys2Proof.Machine.execLdBMn n s
  | .ldMnA n => Sys2Proof.Machine.execLdMnA n s
  | .ldMnB n => Sys2Proof.Machine.execLdMnB n s
  | .ldpxMXI k => Sys2Proof.Machine.execLdpxMXI k s
  | .ldpxRQ r q => Sys2Proof.Machine.execLdpxRQ r q s
  | .ldpyMYI k => Sys2Proof.Machine.execLdpyMYI k s
  | .ldpyRQ r q => Sys2Proof.Machine.execLdpyRQ r q s
  | .lbpx e => Sys2Proof.Machine.execLbpx e s
  | .addRI r k => Sys2Proof.Machine.execAddRI r k s
  | .addRQ r q => Sys2Proof.Machine.execAddRQ r q s
  | .adcRI r k => Sys2Proof.Machine.execAdcRI r k s
  | .adcRQ r q => Sys2Proof.Machine.execAdcRQ r q s
  | .subRQ r q => Sys2Proof.Machine.execSubRQ r q s
  | .sbcRI r k => Sys2Proof.Machine.execSbcRI r k s
  | .sbcRQ r q => Sys2Proof.Machine.execSbcRQ r q s
  | .andRI r k => Sys2Proof.Machine.execAndRI r k s
  | .andRQ r q => Sys2Proof.Machine.execAndRQ r q s
  | .orRI r k => Sys2Proof.Machine.execOrRI r k s
  | .orRQ r q => Sys2Proof.Machine.execOrRQ r q s
  | .xorRI r k => Sys2Proof.Machine.execXorRI r k s
  | .xorRQ r q => Sys2Proof.Machine.execXorRQ r q s
  | .cpRI r k => Sys2Proof.Machine.execCpRI r k s
  | .cpRQ r q => Sys2Proof.Machine.execCpRQ r q s
  | .fanRI r k => Sys2Proof.Machine.execFanRI r k s
  | .fanRQ r q => Sys2Proof.Machine.execFanRQ r q s
  | .rlc r => Sys2Proof.Machine.execRlc r s
  | .rrc r => Sys2Proof.Machine.execRrc r s
  | .incMn n => Sys2Proof.Machine.execIncMn n s
  | .decMn n => Sys2Proof.Machine.execDecMn n s
  | .acpx r => Sys2Proof.Machine.execAcpx r s
  | .acpy r => Sys2Proof.Machine.execAcpy r s
  | .scpx r => Sys2Proof.Machine.execScpx r s
  | .scpy r => Sys2Proof.Machine.execScpy r s
  | .notR r => Sys2Proof.Machine.execNotR r s

end Sys2Proof.Machine
end

