-- ==== Sys2Proof/Machine/Unassigned.lean ====
section
/-! DEFINITION. What a device may do with a word that has no meaning (`UNASSIGNED_OPCODE`, 30_encoding.md R101, R102): the
steps of an instruction of its own. -/

namespace Sys2Proof.Machine

open Sys2Proof.Config

/-- What a place holds; a bank bit is the value 0 or 1. -/
def State.place (s : State) (temp : Nibble) : Place → Nibble
  | .a => s.a
  | .b => s.b
  | .xp => s.xp
  | .xh => s.xh
  | .xl => s.xl
  | .yp => s.yp
  | .yh => s.yh
  | .yl => s.yl
  | .sph => hiNibble s.sp
  | .spl => loNibble s.sp
  | .rp => s.rp
  | .f => s.f
  | .pcb => s.pcb.setWidth 4
  | .pcp => s.pcp
  | .pcsh => hiNibble s.pcs
  | .pcsl => loNibble s.pcs
  | .temp => temp

/-- A place becomes `v`; the bank bit becomes bit 0 of `v`, the latch is not in State. -/
def State.setPlace (s : State) (v : Nibble) : Place → State
  | .a => s.setA v
  | .b => s.setB v
  | .xp => s.setXP v
  | .xh => s.setXH v
  | .xl => s.setXL v
  | .yp => s.setYP v
  | .yh => s.setYH v
  | .yl => s.setYL v
  | .sph => s.setSP (v ++ loNibble s.sp)
  | .spl => s.setSP (hiNibble s.sp ++ v)
  | .rp => s.setRP v
  | .f => s.setF v
  | .pcb => s.setPC (v.setWidth 1) s.pcp s.pcs
  | .pcp => s.setPC s.pcb v s.pcs
  | .pcsh => s.setPC s.pcb s.pcp (v ++ loNibble s.pcs)
  | .pcsl => s.setPC s.pcb s.pcp (hiNibble s.pcs ++ v)
  | .temp => s

/-- The latch after a place became `v`. -/
def tempAfter (temp v : Nibble) : Place → Nibble
  | .temp => v
  | _ => temp

/-- The steps of an instruction of the device's own, in order; `skip` of them are still to be left out. -/
def runSteps : List Micro → (skip : Nat) → (temp : Nibble) → State → Host.Outcome State Fault Refusal
  | [], _, _, s => .next s
  | _ :: l, n + 1, temp, s => runSteps l n temp s
  | .acts i :: l, 0, temp, s =>
    match exec i s with
    | .next t => runSteps l 0 temp t
    | .fault f => .fault f
    | .refused r => .refused r
  | .put g v :: l, 0, temp, s => runSteps l 0 (tempAfter temp v g) (s.setPlace v g)
  | .copy g h :: l, 0, temp, s => runSteps l 0 (tempAfter temp (s.place temp h) g) (s.setPlace (s.place temp h) g)
  | .free g :: l, 0, temp, s =>
    let v := unassignedFree s.draws
    runSteps l 0 (tempAfter temp v g) ((s.setPlace v g).setDraws (s.draws + 1))
  | .skip g mask value n :: l, 0, temp, s => runSteps l (if s.place temp g &&& mask = value then n else 0) temp s

end Sys2Proof.Machine
end

