-- ==== Sys2Proof/Machine/Cycle.lean ====
section
/-! DEFINITION. One step of the core (10_state.md R47): fetch and advance, execute, the bookkeeping at the end of the
instruction, the boundary. -/

namespace Sys2Proof.Machine

open Sys2Proof.Config

/-- `w` is outside the device's `INSTR_SUBSET` (30_encoding.md R102). -/
def excludedWord (ranges : List (Nat × Nat)) (w : Word) : Bool :=
  ranges.any fun r => decide (r.1 ≤ w.toNat) && decide (w.toNat ≤ r.2)

/-- The treatment `UNASSIGNED_OPCODE` gives the word `w`, if it gives one (R101). -/
def treatmentOf : List (Word × Treatment) → Word → Option Treatment
  | [], _ => none
  | (v, i) :: t, w => if v = w then some i else treatmentOf t w

/-- What the device executes for the word `w`: what it decodes to; a word without a meaning, or outside the subset, follows
`UNASSIGNED_OPCODE` (R97, R101, R102; D1, D4; log 20). -/
def operationOf (d : Device) (w : Word) : Except Fault Treatment :=
  let meaningless (f : Fault) : Except Fault Treatment :=
    match treatmentOf d.unassigned w with
    | some t => .ok t
    | none => .error f
  if excludedWord d.excluded w then meaningless (.absentInstruction w)
  else
    match decode w with
    | .ok i => .ok (.secondCode i)
    | .error _ => meaningless (.unassignedOpcode w)

/-- The fetch: the word of ROM at PCB:PCP:PCS (20_memory.md R60, R81), and what the device executes for it. -/
def fetch (s : State) : Except Fault Treatment :=
  match Cells.lookup s.dev.rom s.pc.toNat with
  | some w => operationOf s.dev w
  | none => .error (.absentProgramAddress s.pc)

/-- The instruction is PSET. -/
def isPset : Instr → Bool
  | .pset _ => true
  | _ => false

/-- The bookkeeping at the end of an instruction that is PSET or not and takes `clk` clocks, from the state `before` its
execution to the state `after` it (R47 (2)): PSET sets after_pset and leaves NBP:NPP; every other instruction clears it
and reloads NBP:NPP from PCB:PCP (R32). ei_delay is set by an instruction that changed I from 0 to 1 (R44, D9, D13). The
clocks are added (log 8). -/
def endOf (pset : Bool) (clk : Nat) (before after : State) : State :=
  let s1 := if pset then after else after.setNext after.pcb after.pcp
  let s2 := s1.setHidden pset (!before.fi && after.fi)
  s2.setClocks (s2.clocks + clk)

/-- The bookkeeping at the end of instruction `i`. -/
def endOfInstr (i : Instr) (before after : State) : State := endOf (isPset i) (clocksOf i) before after

/-- What a treatment does when it executes, from the state with the counter advanced. -/
def executeWord (t : Treatment) (s : State) : Host.Outcome State Fault Refusal :=
  match t with
  | .secondCode i => exec i s
  | .own l _ => runSteps l 0 0 s

/-- The bookkeeping at the end of a treatment: an instruction of the device's own is not PSET. -/
def finishWord (t : Treatment) (before after : State) : State :=
  match t with
  | .secondCode i => endOfInstr i before after
  | .own _ clk => endOf false clk before after

/-- A fetched word: the counter advances, the instruction executes, the bookkeeping, the boundary (R47). -/
def runWord (t : Treatment) (s : State) : Host.Outcome State Fault Refusal :=
  match executeWord t s.advance with
  | .next u => (finishWord t s.advance u).settle
  | .fault f => s.stopped f
  | .refused r => .refused r

/-- A fetched instruction. -/
def runInstr (i : Instr) (s : State) : Host.Outcome State Fault Refusal := runWord (.secondCode i) s

/-- One step: an instruction in RUN; in HALT or SLEEP nothing executes and the boundary is tested, with after_pset and
ei_delay clear, since no instruction has just completed (R47, R142, R143, 60_exceptions.md R304). -/
def cycle (s : State) : Host.Outcome State Fault Refusal :=
  match s.run with
  | .run =>
    match fetch s with
    | .ok t => runWord t s
    | .error f => s.stopped f
  | .halt | .sleep => (s.setHidden false false).settle

/-- The state with the instruction word `w` in ROM at the program counter, the core in RUN (log 5). -/
def loadWord (s : State) (w : Word) : State :=
  (s.setDev { s.dev with rom := Cells.insert s.dev.rom s.pc.toNat w }).setRun .run

end Sys2Proof.Machine
end

