-- ==== Sys2Proof/Machine/Step.lean ====
section
/-! DEFINITION. The step, and the host's way to place one instruction. -/

namespace Sys2Proof.Machine

/-- One step of the machine (10_state.md R47). -/
def step (s : State) : Host.Outcome State Fault Refusal := cycle s

/-- `s` with the instruction whose bits are `w` (bit 0 the least significant, one 12-bit word) where the next step
fetches: in ROM at PCB:PCP:PCS, the core in RUN. It stands for the loading of a program from outside (log 5). -/
def State.withFetchWord (s : State) (_nbits w : Nat) : State := loadWord s (BitVec.ofNat 12 w)

end Sys2Proof.Machine
end

