-- ==== Sys2Proof/Safety.lean ====
section
/-! DEFINITION. The terms claims use: the invariant of a good state, and the tables of the spec that say what an
instruction may write: flags (10_state.md R39), registers (R49), data memory and I/O accesses (20_memory.md R71). -/

namespace Sys2Proof.Machine

open Sys2Proof.Config

/-! ## Good states -/

/-- Every listed word of data memory is at an address that `RAM_MAP` marks ram. -/
def State.ramOnly (s : State) : Bool := s.ram.all fun c => decide (kindIn s.dev.ramMap c.1 = .ram)

/-- Some word is an instruction of the device's own. -/
def hasOwnWords (d : Device) : Bool :=
  d.unassigned.any fun p => match p.2 with | .own _ _ => true | .secondCode _ => false

/-- The invariant of every state at an instruction boundary: both memories and the peripheral registers in canonical form,
data memory lists RAM words only; NBP:NPP are PCB:PCP unless the instruction just completed was PSET (10_state.md R33);
after_pset and ei_delay are not both set; ei_delay is set only with I = 1 (R44); in HALT and SLEEP after_pset is clear, and
so is ei_delay unless the device has instructions of its own, which could set I and stop the core at once
(60_exceptions.md R304). -/
def State.inv (s : State) : Bool :=
  Memory.wf s.ram && Program.wf s.dev.rom && s.ramOnly &&
  Memory.wf s.ioRegs && Memory.wf s.dev.io.atReset &&
  (s.afterPset || (decide (s.nbp = s.pcb) && decide (s.npp = s.pcp))) &&
  !(s.afterPset && s.eiDelay) &&
  (!s.eiDelay || s.fi) &&
  (decide (s.run = .run) || (!s.afterPset && (!s.eiDelay || hasOwnWords s.dev)))

/-- Everything in the data address space answers. -/
def State.allPresent (s : State) : Prop := ∀ a : Addr, s.present a = true

/-- The three words of the return address about to be pushed have something behind them. -/
def State.pushRoom (s : State) : Prop :=
  s.present (stackAddr (s.sp - 1)) = true ∧ s.present (stackAddr (s.sp - 2)) = true ∧
    s.present (stackAddr (s.sp - 3)) = true

/-- The three words of the return address about to be popped have something behind them. -/
def State.popRoom (s : State) : Prop :=
  s.present (stackAddr s.sp) = true ∧ s.present (stackAddr (s.sp + 1)) = true ∧
    s.present (stackAddr (s.sp + 2)) = true

/-- The three words of the return address about to be pushed are RAM. -/
def State.pushRam (s : State) : Prop :=
  s.kindAt (stackAddr (s.sp - 1)) = .ram ∧ s.kindAt (stackAddr (s.sp - 2)) = .ram ∧
    s.kindAt (stackAddr (s.sp - 3)) = .ram

/-! ## An instruction's row of the opcode map -/

/-- The row of instruction `i` in the opcode map (30_encoding.md R98): its word and its clock cycles. -/
def HasCode (i : Instr) (w : Word) (clk : Nat) : Prop := encode i = w ∧ clocksOf i = clk

/-- ROM holds the word of instruction `i` at the program counter, the device implements it, and the core runs. -/
def Fetches (s : State) (i : Instr) : Prop :=
  s.run = .run ∧ ∃ w, Cells.lookup s.dev.rom s.pc.toNat = some w ∧ excludedWord s.dev.excluded w = false ∧
    decode w = .ok i

/-- The words no instruction is assigned to, as ranges (30_encoding.md R101). -/
def unassignedRanges : List (Nat × Nat) :=
  [(0xAF1, 0xAF4), (0xAF6, 0xAF9), (0xAFB, 0xAFE), (0xE9C, 0xE9F), (0xEAC, 0xEAF), (0xEBC, 0xEBF), (0xED0, 0xEDF),
   (0xF20, 0xF27), (0xF30, 0xF37), (0xFCC, 0xFCF), (0xFDC, 0xFDD), (0xFE9, 0xFEF), (0xFFA, 0xFFA), (0xFFC, 0xFFE)]

/-! ## Who writes which flag (10_state.md R39) -/

/-- The instructions that may write I. -/
def writesI : Instr → Bool
  | .setF _ | .rstF _ | .ei | .di | .popF => true
  | _ => false

/-- The instructions that may write D. -/
def writesD : Instr → Bool
  | .setF _ | .rstF _ | .sdf | .rdf | .popF => true
  | _ => false

/-- The instructions that may write C: the 17 arithmetic ones, four flag operations, eight index operations, POP F
(R35). -/
def writesC : Instr → Bool
  | .addRI _ _ | .addRQ _ _ | .adcRI _ _ | .adcRQ _ _ | .subRQ _ _ | .sbcRI _ _ | .sbcRQ _ _ | .cpRI _ _ | .cpRQ _ _
  | .incMn _ | .decMn _ | .acpx _ | .acpy _ | .scpx _ | .scpy _ | .rlc _ | .rrc _
  | .setF _ | .rstF _ | .scf | .rcf
  | .adcXHI _ | .adcXLI _ | .adcYHI _ | .adcYLI _ | .cpXHI _ | .cpXLI _ | .cpYHI _ | .cpYLI _ | .popF => true
  | _ => false

/-- The instructions that may write Z: the writers of C but SCF and RCF, the logical ones, SZF and RZF (R36). RLC and
RRC are among them unless `RLC_RRC_WRITE_Z` is `false`. -/
def writesZ (rotateZ : RotateZ) : Instr → Bool
  | .addRI _ _ | .addRQ _ _ | .adcRI _ _ | .adcRQ _ _ | .subRQ _ _ | .sbcRI _ _ | .sbcRQ _ _ | .cpRI _ _ | .cpRQ _ _
  | .incMn _ | .decMn _ | .acpx _ | .acpy _ | .scpx _ | .scpy _
  | .andRI _ _ | .andRQ _ _ | .orRI _ _ | .orRQ _ _ | .xorRI _ _ | .xorRQ _ _ | .fanRI _ _ | .fanRQ _ _ | .notR _
  | .setF _ | .rstF _ | .szf | .rzf
  | .adcXHI _ | .adcXLI _ | .adcYHI _ | .adcYLI _ | .cpXHI _ | .cpXLI _ | .cpYHI _ | .cpYLI _ | .popF => true
  | .rlc _ | .rrc _ => decide (rotateZ ≠ .keeps)
  | _ => false

/-! ## Who writes which register (10_state.md R49) -/

/-- The data registers. -/
inductive Reg where
  | a | b | xp | xh | xl | yp | yh | yl | sp | rp
deriving DecidableEq, Repr

/-- A data register's value. -/
def State.reg (s : State) : Reg → Nat
  | .a => s.a.toNat
  | .b => s.b.toNat
  | .xp => s.xp.toNat
  | .xh => s.xh.toNat
  | .xl => s.xl.toNat
  | .yp => s.yp.toNat
  | .yh => s.yh.toNat
  | .yl => s.yl.toNat
  | .sp => s.sp.toNat
  | .rp => s.rp.toNat

/-- The destination operand `r` is register `g`. -/
def selIsReg (r : Sel) (g : Reg) : Bool :=
  match r, g with
  | .a, .a | .b, .b => true
  | _, _ => false

/-- The operand `r` an instruction writes, if it has one. -/
def destOf : Instr → Option Sel
  | .popR r | .ldRSPH r | .ldRSPL r | .ldRXP r | .ldRXH r | .ldRXL r | .ldRYP r | .ldRYH r | .ldRYL r
  | .ldRI r _ | .ldRQ r _ | .ldpxRQ r _ | .ldpyRQ r _ | .addRI r _ | .addRQ r _ | .adcRI r _ | .adcRQ r _ | .subRQ r _
  | .sbcRI r _ | .sbcRQ r _ | .andRI r _ | .andRQ r _ | .orRI r _ | .orRQ r _ | .xorRI r _ | .xorRQ r _
  | .rlc r | .rrc r | .notR r => some r
  | _ => none

/-- The registers an instruction may write beyond its operand `r`. -/
def alsoWrites : Instr → List Reg
  | .ldAMn _ => [.a, .rp]
  | .ldBMn _ => [.b, .rp]
  | .ldMnA _ | .ldMnB _ | .incMn _ | .decMn _ => [.rp]
  | .ldXPR _ => [.xp]
  | .ldXHR _ | .adcXHI _ => [.xh]
  | .ldXLR _ | .adcXLI _ => [.xl]
  | .ldYPR _ => [.yp]
  | .ldYHR _ | .adcYHI _ => [.yh]
  | .ldYLR _ | .adcYLI _ => [.yl]
  | .ldXE _ | .incX | .ldpxMXI _ | .ldpxRQ _ _ | .acpx _ | .scpx _ | .lbpx _ => [.xh, .xl]
  | .ldYE _ | .incY | .ldpyMYI _ | .ldpyRQ _ _ | .acpy _ | .scpy _ => [.yh, .yl]
  | .retd _ => [.sp, .xh, .xl]
  | .popXP => [.sp, .xp]
  | .popXH => [.sp, .xh]
  | .popXL => [.sp, .xl]
  | .popYP => [.sp, .yp]
  | .popYH => [.sp, .yh]
  | .popYL => [.sp, .yl]
  | .call _ | .calz _ | .ret | .rets | .pushR _ | .pushXP | .pushXH | .pushXL | .pushYP | .pushYH | .pushYL | .pushF
  | .popR _ | .popF | .incSP | .decSP | .ldSPHR _ | .ldSPLR _ => [.sp]
  | _ => []

/-- Instruction `i` may write register `g`. -/
def writesReg (i : Instr) (g : Reg) : Bool :=
  (match destOf i with | some r => selIsReg r g | none => false) || (alsoWrites i).contains g

/-! ## Accesses to data memory (20_memory.md R71) -/

/-- One access: a write, or a read. -/
structure Access where
  isWrite : Bool
  addr : Addr
deriving DecidableEq, Repr

/-- A read of `a`. -/
def readOf (a : Addr) : Access := ⟨false, a⟩

/-- A write of `a`. -/
def writeOf (a : Addr) : Access := ⟨true, a⟩

/-- The read of operand `r`, where it is memory. -/
def State.readsSel (s : State) (r : Sel) : List Access := (s.selAddr r).toList.map readOf

/-- The write of operand `r`, where it is memory. -/
def State.writesSel (s : State) (r : Sel) : List Access := (s.selAddr r).toList.map writeOf

/-- The accesses to data memory instruction `i` makes from state `s`, in order: the table of R71. -/
def accessesOf (i : Instr) (s : State) : List Access :=
  match i with
  | .ldRI r _ | .ldRSPH r | .ldRSPL r | .ldRXP r | .ldRXH r | .ldRXL r | .ldRYP r | .ldRYH r | .ldRYL r => s.writesSel r
  | .ldRQ r q | .ldpxRQ r q | .ldpyRQ r q => s.readsSel q ++ s.writesSel r
  | .addRQ r q | .adcRQ r q | .subRQ r q | .sbcRQ r q | .andRQ r q | .orRQ r q | .xorRQ r q =>
    s.readsSel r ++ s.readsSel q ++ s.writesSel r
  | .addRI r _ | .adcRI r _ | .sbcRI r _ | .andRI r _ | .orRI r _ | .xorRI r _ | .notR r | .rlc r | .rrc r =>
    s.readsSel r ++ s.writesSel r
  | .cpRQ r q | .fanRQ r q => s.readsSel r ++ s.readsSel q
  | .cpRI r _ | .fanRI r _ => s.readsSel r
  | .ldAMn n | .ldBMn n => [readOf (regAddr n)]
  | .ldMnA n | .ldMnB n => [writeOf (regAddr n)]
  | .incMn n | .decMn n => [readOf (regAddr n), writeOf (regAddr n)]
  | .ldpxMXI _ => [writeOf s.ix]
  | .ldpyMYI _ => [writeOf s.iy]
  | .acpx r | .scpx r => readOf s.ix :: s.readsSel r ++ [writeOf s.ix]
  | .acpy r | .scpy r => readOf s.iy :: s.readsSel r ++ [writeOf s.iy]
  | .lbpx _ => [writeOf s.ix, writeOf s.ixNext]
  | .retd _ =>
    [readOf (stackAddr s.sp), readOf (stackAddr (s.sp + 1)), readOf (stackAddr (s.sp + 2)), writeOf s.ix,
      writeOf s.ixNext]
  | .ret | .rets => [readOf (stackAddr s.sp), readOf (stackAddr (s.sp + 1)), readOf (stackAddr (s.sp + 2))]
  | .call _ | .calz _ =>
    [writeOf (stackAddr (s.sp - 1)), writeOf (stackAddr (s.sp - 2)), writeOf (stackAddr (s.sp - 3))]
  | .pushR r => s.readsSel r ++ [writeOf (stackAddr (s.sp - 1))]
  | .pushXP | .pushXH | .pushXL | .pushYP | .pushYH | .pushYL | .pushF => [writeOf (stackAddr (s.sp - 1))]
  | .popR r => readOf (stackAddr s.sp) :: s.writesSel r
  | .popXP | .popXH | .popXL | .popYP | .popYH | .popYL | .popF => [readOf (stackAddr s.sp)]
  | .ldXPR r | .ldXHR r | .ldXLR r | .ldYPR r | .ldYHR r | .ldYLR r | .ldSPHR r | .ldSPLR r => s.readsSel r
  | .pset _ | .jp _ | .jpC _ | .jpNC _ | .jpZ _ | .jpNZ _ | .jpba | .nop5 | .nop7 | .halt | .slp | .setF _ | .rstF _
  | .scf | .rcf | .szf | .rzf | .sdf | .rdf | .ei | .di | .incSP | .decSP | .incX | .incY | .ldXE _ | .ldYE _
  | .adcXHI _ | .adcXLI _ | .adcYHI _ | .adcYLI _ | .cpXHI _ | .cpXLI _ | .cpYHI _ | .cpYLI _ => []

/-- The addresses instruction `i` stores to from state `s`. -/
def storesTo (i : Instr) (s : State) : List Addr := ((accessesOf i s).filter (·.isWrite)).map (·.addr)

/-- An entry of the I/O trace as an access. -/
def accessOf : IoAccess → Access
  | .read a => readOf a
  | .write a _ => writeOf a

/-! ## C and Z -/

/-- `s` with C as given and Z saying whether the 4-bit result `v` is zero (10_state.md R35, R36). -/
def State.withCZ (s : State) (c : Bool) (v : Nibble) : State := { s with fc := c, fz := decide (v = 0) }

/-! ## Branches -/

/-- The jumps: the instructions that copy NBP to PCB (10_state.md R31). -/
def isJump : Instr → Bool
  | .jp _ | .jpC _ | .jpNC _ | .jpZ _ | .jpNZ _ | .jpba => true
  | _ => false

/-- The instructions that write the program counter when they execute (R31). -/
def writesCounter : Instr → Bool
  | .call _ | .calz _ | .ret | .rets | .retd _ => true
  | i => isJump i

end Sys2Proof.Machine
end

