-- ==== Sys2Proof/WellFormed.lean ====
section
/-! DEFINITION. Well-formed instructions. Every operand of Instr already has the width of its field, so the one thing to
check is R100 (30_encoding.md): eleven mnemonics are names of single words of a general instruction. A word has ONE
well-formed reading: the alias. The general form at that operand is the same instruction under its other name
(`SET F,1` is SCF) and is not the reading decode gives. -/

namespace Sys2Proof

/-- The general form `i` is at an operand value that R100 gives a mnemonic of its own. -/
def Instr.isAliased : Instr → Bool
  | .setF i => i = 1 || i = 2 || i = 4 || i = 8      -- SCF, SZF, SDF, EI
  | .rstF i => i = 7 || i = 0xB || i = 0xD || i = 0xE -- DI, RDF, RZF, RCF
  | .ldpxRQ r q => r = .a && q = .a                   -- INC X
  | .ldpyRQ r q => r = .a && q = .a                   -- INC Y
  | .xorRI _ i => i = 0xF                             -- NOT r
  | _ => false

/-- `i` is the reading its word has: not a general form that R100 names otherwise. -/
def Instr.wellFormed (i : Instr) : Bool := !i.isAliased

/-- The general form that an alias of R100 is one value of; every other instruction is its own general form. -/
def Instr.general : Instr → Instr
  | .scf => .setF 1
  | .szf => .setF 2
  | .sdf => .setF 4
  | .ei => .setF 8
  | .di => .rstF 7
  | .rdf => .rstF 0xB
  | .rzf => .rstF 0xD
  | .rcf => .rstF 0xE
  | .incX => .ldpxRQ .a .a
  | .incY => .ldpyRQ .a .a
  | .notR r => .xorRI r 0xF
  | i => i

end Sys2Proof
end

