-- ==== Sys2Proof/Certificates/Slice0/Obligations.lean ====
section
/-! DEFINITION. The statements for the provers. Each names in its docstring the rules of spec/ it follows; where a
statement rests on a decision of the spec (D<n>) or on a choice of the model, it names the decision or the log entry. -/

open Sys2Proof Sys2Proof.Machine Sys2Proof.Config

/-- For every well-formed instruction, with every operand at every value its field admits, decode of encode is that
instruction. Rests on the opcode map, its 75 general-knowledge words included (log 11). Rules: R97, R98, R99, R100. -/
def Obligations.DecodeEncodeAgree : Prop :=
  ∀ i : Instr, i.wellFormed = true → decode (encode i) = .ok i

/-- If decode reads instruction i from word w, then encode i is w and i is well-formed: no bit of a word is dropped,
no two words share a reading. Rules: R97, R98, R100. -/
def Obligations.EncodeDecodeAgree : Prop :=
  ∀ (w : Word) (i : Instr), decode w = .ok i → encode i = w ∧ i.wellFormed = true

/-- decode rejects a word exactly when it lies in one of the ranges R101 lists, and there are 73 of them. That AF1H
and its like are unassigned is decision D1 with conflict C8. Rules: R99, R101. -/
def Obligations.UnassignedWords : Prop :=
  (∀ w : Word, (decode w).toOption = none ↔ unassignedRanges.any (fun r => decide (r.1 ≤ w.toNat) && decide (w.toNat ≤ r.2)) = true) ∧
  ((List.range 4096).filter fun n => (decodeTableWord 16 n).isNone).length = 73

/-- One word for each family, bit by bit from the patterns of R98. Rules: R91, R92, R93, R94, R98. -/
def Obligations.WrittenWordsDecode : Prop :=
  decode 0b000000001000#12 = .ok (.jp 0x08) ∧
  decode 0b111001010011#12 = .ok (.pset 0x13) ∧
  decode 0b111111111000#12 = .ok .halt ∧
  decode 0b111101001101#12 = .ok (.setF 0xD) ∧
  decode 0b111111000010#12 = .ok (.pushR .mx) ∧
  decode 0b101101001100#12 = .ok (.ldXE 0x4C) ∧
  decode 0b111010001011#12 = .ok (.ldXLR .my) ∧
  decode 0b111011001011#12 = .ok (.ldRQ .mx .my) ∧
  decode 0b101010110001#12 = .ok (.sbcRQ .a .b) ∧
  decode 0b110111100111#12 = .ok (.cpRI .mx 7)

/-- For every instruction and its general form (SCF and SET F,1, SZF and SET F,2, SDF and SET F,4, EI and SET F,8, DI
and RST F,7, RDF and RST F,0BH, RZF and RST F,0DH, RCF and RST F,0EH, INC X and LDPX A,A, INC Y and LDPY A,A, NOT r
and XOR r,0FH): one word, and the same outcome from every state. Rules: R100. -/
def Obligations.AliasesAreGeneralForms : Prop :=
  ∀ (i : Instr) (s : State), encode i.general = encode i ∧ exec i.general s = exec i s

/-- When ROM holds at the program counter a word the device implements and that decodes to i, and the core runs: if i
executed from the advanced state answers t, the step is the boundary of t, settled, with NBP:NPP reloaded unless i is
PSET, after_pset saying whether i is PSET, ei_delay saying whether I went from 0 to 1, and the clocks of i added (log
8); if no input comes that is the next state; a fault of i is the fault of the step where no reset is to come (log
18). Rules: R30, R32, R43, R44, R47. -/
def Obligations.StepRunsDecodedInstruction : Prop :=
  ∀ (s t : State) (i : Instr), Fetches s i →
    (exec i s.advance = .next t →
      step s =
        ({ t with
            nbp := if isPset i then t.nbp else t.pcb
            npp := if isPset i then t.npp else t.pcp
            afterPset := isPset i
            eiDelay := !s.fi && t.fi
            clocks := t.clocks + clocksOf i } : State).settle ∧
      (t.inputs = [] →
        step s = .next
          { t with
              nbp := if isPset i then t.nbp else t.pcb
              npp := if isPset i then t.npp else t.pcp
              afterPset := isPset i
              eiDelay := !s.fi && t.fi
              clocks := t.clocks + clocksOf i })) ∧
    ∀ f : Fault, exec i s.advance = .fault f → (∀ x ∈ s.inputs, x ≠ .reset) → step s = .fault f

/-- From a running state with no reset to come: no word in ROM at the program counter faults as absentProgramAddress
(D2); a word outside the subset faults as absentInstruction (D4) and an unassigned word as unassignedOpcode (D1) when
UNASSIGNED_OPCODE gives no treatment; where it makes the word a second code of an instruction, the step is that
instruction run, whatever inputs come (log 20). Rules: R76, R101, R102. -/
def Obligations.FetchStops : Prop :=
  ∀ (s : State) (w : Word), s.run = .run →
    (Cells.lookup s.dev.rom s.pc.toNat = none → (∀ x ∈ s.inputs, x ≠ .reset) →
      step s = .fault (.absentProgramAddress s.pc)) ∧
    (Cells.lookup s.dev.rom s.pc.toNat = some w →
      (excludedWord s.dev.excluded w = true → treatmentOf s.dev.unassigned w = none →
        (∀ x ∈ s.inputs, x ≠ .reset) → step s = .fault (.absentInstruction w)) ∧
      (excludedWord s.dev.excluded w = false → (decode w).toOption = none → treatmentOf s.dev.unassigned w = none →
        (∀ x ∈ s.inputs, x ≠ .reset) → step s = .fault (.unassignedOpcode w)) ∧
      ∀ i : Instr, (excludedWord s.dev.excluded w = true ∨ (decode w).toOption = none) →
        treatmentOf s.dev.unassigned w = some (.secondCode i) → step s = runInstr i s)

/-- State.reset; the state after a step from any state whatever, with a reset presented at its boundary; and the state
after a step that stops for a reason of the model with a reset to come later: no word to fetch, an unassigned word or
one outside the subset without a treatment, an instruction or a treated word (log 20) that faults, interrupt entry
without memory for the return address after an instruction, after a treated word, or from HALT or SLEEP. The values:
PCB 0, PCP 1, PCS 00H, NBP 0, NPP 1, I 0, D 0 on the S1C6200A, and RUN with both delays clear (D12). A stopped core
takes no request until the reset (log 18). Registers without a source value are not in the statement (log 1). Rules:
R340, R342, R344. -/
def Obligations.ResetState : Prop :=
  let good := fun u : State =>
    u.pcb = 0 ∧ u.pcp = 1 ∧ u.pcs = 0x00 ∧ u.nbp = 0 ∧ u.npp = 1 ∧ u.fi = false ∧
      (u.dev.core = .s1c6200A → u.fd = false) ∧ u.run = .run ∧ u.afterPset = false ∧ u.eiDelay = false
  good State.reset ∧
  (∀ (s : State) (rest : List Input), s.inputs = .reset :: rest →
    ∃ u, step s = .next u ∧ good u ∧ u.inputs = rest ∧ u.dev = s.dev) ∧
  ∀ (s : State) (before rest : List Input), s.inputs = before ++ .reset :: rest → (∀ x ∈ before, x ≠ .reset) →
    ((s.run = .run ∧ Cells.lookup s.dev.rom s.pc.toNat = none) ∨
      (s.run = .run ∧ ∃ w, Cells.lookup s.dev.rom s.pc.toNat = some w ∧
        (excludedWord s.dev.excluded w = true ∨ (decode w).toOption = none) ∧ treatmentOf s.dev.unassigned w = none) ∨
      (∃ i f, Fetches s i ∧ exec i s.advance = .fault f) ∨
      (∃ i t v l, Fetches s i ∧ exec i s.advance = .next t ∧ isPset i = false ∧ s.fi = true ∧ t.fi = true ∧
        ¬ t.pushRoom ∧ v ≠ 0 ∧ before = .request v :: l) ∨
      (s.run = .run ∧ ∃ w d, Cells.lookup s.dev.rom s.pc.toNat = some w ∧
        (excludedWord s.dev.excluded w = true ∨ (decode w).toOption = none) ∧
        treatmentOf s.dev.unassigned w = some d ∧
        ((∃ f, executeWord d s.advance = .fault f) ∨
          ∃ t v l, executeWord d s.advance = .next t ∧ (finishWord d s.advance t).accepts v = true ∧ ¬ t.pushRoom ∧
            before = .request v :: l)) ∨
      (s.run ≠ .run ∧ s.fi = true ∧ ¬ s.pushRoom ∧ ∃ v l, v ≠ 0 ∧ before = .request v :: l)) →
    ∃ u, step s = .next u ∧ good u ∧ u.inputs = rest ∧ u.dev = s.dev

/-- State.reset satisfies State.inv: both memories and the peripheral registers canonical, NBP:NPP equal PCB:PCP, no
delay pending. Rules: R33, R61, R340. -/
def Obligations.ResetSatisfiesInvariant : Prop :=
  State.reset.inv = true

/-- From every state with the invariant, a step that answers a next state answers one with it: both memories and the
peripheral registers stay canonical and data memory lists RAM words only; NBP:NPP are PCB:PCP unless the instruction
just completed was PSET (R33); after_pset and ei_delay are never both set; ei_delay is set only with I = 1; in HALT
and SLEEP both are clear, ei_delay unless the device has instructions of its own (log 20). Rules: R32, R33, R43, R44,
R61, R304. -/
def Obligations.StepKeepsInvariant : Prop :=
  ∀ s t : State, s.inv = true → step s = .next t → t.inv = true

/-- PSET p: code, clocks; NBP becomes p4, NPP p3..p0, nothing else changes; at the end of the instruction after_pset
is 1, NBP:NPP are not reloaded, and no request is accepted. That a request waits for the instruction after PSET is the
reading of log 16 (91_not_in_source.md N25), and that NBP:NPP are reloaded after every other instruction that of log
19. Rules: R43, R120, R304. -/
def Obligations.PsetEffect : Prop :=
  ∀ (p : BitVec 5) (s : State),
    HasCode (.pset p) (0b1110010#7 ++ p) 5 ∧
    ∃ t, exec (.pset p) s = .next t ∧
      t = { s with nbp := BitVec.ofBool (p.getLsbD 4), npp := p.setWidth 4 } ∧
      (endOfInstr (.pset p) s t).afterPset = true ∧
      (endOfInstr (.pset p) s t).nbp = t.nbp ∧ (endOfInstr (.pset p) s t).npp = t.npp ∧
      ∀ v : Nibble, (endOfInstr (.pset p) s t).accepts v = false

/-- JP s and JPBA: code, clocks; PCB becomes NBP, PCP becomes NPP, PCS becomes the operand or B:A, and nothing else
changes. Rules: R121, R126. -/
def Obligations.JumpEffects : Prop :=
  ∀ (d : Byte) (s : State),
    HasCode (.jp d) (0b0000#4 ++ d) 5 ∧
    exec (.jp d) s = .next { s with pcb := s.nbp, pcp := s.npp, pcs := d } ∧
    HasCode .jpba 0xFE8 5 ∧
    exec .jpba s = .next { s with pcb := s.nbp, pcp := s.npp, pcs := s.b ++ s.a }

/-- Each conditional jump: code, 5 clocks taken or not; with the condition true it does what JP does, with it false it
leaves the state as it is (the counter already holds the next address). Rules: R122, R123, R124, R125. -/
def Obligations.ConditionalJumps : Prop :=
  ∀ (d : Byte) (s : State),
    HasCode (.jpC d) (0b0010#4 ++ d) 5 ∧ HasCode (.jpNC d) (0b0011#4 ++ d) 5 ∧
    HasCode (.jpZ d) (0b0110#4 ++ d) 5 ∧ HasCode (.jpNZ d) (0b0111#4 ++ d) 5 ∧
    (s.fc = true → exec (.jpC d) s = exec (.jp d) s ∧ exec (.jpNC d) s = .next s) ∧
    (s.fc = false → exec (.jpC d) s = .next s ∧ exec (.jpNC d) s = exec (.jp d) s) ∧
    (s.fz = true → exec (.jpZ d) s = exec (.jp d) s ∧ exec (.jpNZ d) s = .next s) ∧
    (s.fz = false → exec (.jpZ d) s = .next s ∧ exec (.jpNZ d) s = exec (.jp d) s) ∧
    exec (.jp d) s = .next { s with pcb := s.nbp, pcp := s.npp, pcs := d }

/-- Three clauses over whole steps: PSET p then JP d, with a request presented at the boundary between them, runs both
and ends at bank and page p, step d, with the request turned away; a JP from a good state with no PSET before it ends
in its own bank and page (D7); PSET, NOP5, JP ends in the page of the JP: the PSET is cancelled. Rules: R33, R43,
R133. -/
def Obligations.PsetServesOnlyTheNextJump : Prop :=
  (∀ (s : State) (p : BitVec 5) (d : Byte) (v : Nibble),
    Fetches s (.pset p) → Fetches s.advance (.jp d) → s.inputs = [.request v] →
    ∃ u, Host.Core.run Sys2Proof.core 2 s = .next u ∧ u.pc = p ++ d ∧ u.sp = s.sp ∧ u.ram = s.ram ∧ u.fi = s.fi ∧
      u.inputs = []) ∧
  (∀ (s : State) (d : Byte), s.inv = true → s.afterPset = false → Fetches s (.jp d) → s.inputs = [] →
    ∃ u, step s = .next u ∧ u.pc = s.pcb ++ s.pcp ++ d) ∧
  ∀ (s : State) (p : BitVec 5) (d : Byte),
    Fetches s (.pset p) → Fetches s.advance .nop5 → Fetches s.advance.advance (.jp d) → s.inputs = [] →
    ∃ u, Host.Core.run Sys2Proof.core 3 s = .next u ∧ u.pc = s.pcb ++ s.advance.advance.pcp ++ d

/-- With something behind the three stack words: the three stores in order below SP, SP less 3 modulo 256 (D6), PCP
from NPP or 0, PCS from the operand, PCB and everything else unchanged; code and clocks. Rules: R127, R128, R134,
R135. -/
def Obligations.CallEffects : Prop :=
  ∀ (d : Byte) (s : State), s.pushRoom →
    let pushed := ((s.store (stackAddr (s.sp - 1)) s.pcp).store (stackAddr (s.sp - 2)) (s.pcs.extractLsb' 4 4)).store
      (stackAddr (s.sp - 3)) (s.pcs.extractLsb' 0 4)
    HasCode (.call d) (0b0100#4 ++ d) 7 ∧
    exec (.call d) s = .next { pushed with sp := s.sp - 3, pcp := s.npp, pcs := d } ∧
    HasCode (.calz d) (0b0101#4 ++ d) 7 ∧
    exec (.calz d) s = .next { pushed with sp := s.sp - 3, pcp := 0, pcs := d }

/-- With something behind the three stack words: the words read at SP, SP+1, SP+2 in that order become PCSL, PCSH,
PCP, SP grows by 3 modulo 256 (D6), PCB is unchanged; RETS then advances the 12-bit counter (D5); RETD then stores the
low nibble at IX, the high nibble at XP:(X+1) (D8) and adds 2 to X. Rules: R129, R130, R131, R134, R135. -/
def Obligations.ReturnEffects : Prop :=
  ∀ (e : Byte) (s : State), s.popRoom →
    let lo := s.word (stackAddr s.sp)
    let s1 := s.touch (stackAddr s.sp)
    let hi := s1.word (stackAddr (s.sp + 1))
    let s2 := s1.touch (stackAddr (s.sp + 1))
    let pg := s2.word (stackAddr (s.sp + 2))
    let s3 := s2.touch (stackAddr (s.sp + 2))
    let back : State := { s3 with pcp := pg, pcs := hi ++ lo, sp := s.sp + 3 }
    let skip : BitVec 12 := pg ++ hi ++ lo + 1
    HasCode .ret 0xFDF 7 ∧ HasCode .rets 0xFDE 12 ∧ HasCode (.retd e) (0b0001#4 ++ e) 12 ∧
    exec .ret s = .next back ∧
    exec .rets s = .next { back with pcp := skip.extractLsb' 8 4, pcs := skip.extractLsb' 0 8 } ∧
    (s.present s.ix = true → s.present s.ixNext = true →
      exec (.retd e) s = .next (((back.store s.ix (e.extractLsb' 0 4)).store s.ixNext (e.extractLsb' 4 4)).incX 2))

/-- With the three words below SP in RAM, CALL or CALZ followed by RET gives back every register, the return address,
SP and the flags; data memory differs in the three stack words only; NBP:NPP as they were. Rules: R127, R128, R129,
R134, R135. -/
def Obligations.CallThenReturn : Prop :=
  ∀ (s : State) (d : Byte), s.pushRam → ∀ i ∈ [Instr.call d, Instr.calz d],
    ∃ t u, exec i s = .next t ∧ exec .ret t = .next u ∧ u = { s with ram := t.ram } ∧
      ∀ a : Addr, a ≠ stackAddr (s.sp - 1) → a ≠ stackAddr (s.sp - 2) → a ≠ stackAddr (s.sp - 3) →
        u.ramWord a = s.ramWord a

/-- Code and clocks of the four; HALT and SLP push nothing (90_conflicts.md C4). Rules: R140, R141, R142, R143. -/
def Obligations.SystemControlEffects : Prop :=
  ∀ s : State,
    HasCode .nop5 0xFFB 5 ∧ exec .nop5 s = .next s ∧
    HasCode .nop7 0xFFF 7 ∧ exec .nop7 s = .next s ∧
    HasCode .halt 0xFF8 5 ∧ exec .halt s = .next { s with run := .halt } ∧
    HasCode .slp 0xFF9 5 ∧ exec .slp s = .next { s with run := .sleep }

/-- From HALT or SLEEP, any number of steps only uses up inputs and clears the two delays (clear in every state with
the invariant, R304): with I = 0 and no reset among the coming inputs (D14); and with I = 1 or I = 0 while nothing at
all is presented. With I = 1 and room on the stack, a request with vector v is taken at once: RUN, page 1 step v of
the current bank, I 0, SP less 3. That an input is used up is log 21. Rules: R142, R143, R144, R304, R309, R322. -/
def Obligations.StandbyWaitsForAnInterrupt : Prop :=
  (∀ (s : State) (n : Nat), s.run ≠ .run →
    ((s.fi = false ∧ ∀ x ∈ s.inputs, x ≠ .reset) ∨ ∀ x ∈ s.inputs, x = .quiet) →
    Host.Core.run Sys2Proof.core (n + 1) s =
      .next { s with inputs := s.inputs.drop (n + 1), afterPset := false, eiDelay := false }) ∧
  ∀ (s : State) (v : Nibble) (rest : List Input), s.run ≠ .run → s.fi = true → v ≠ 0 →
    s.inputs = .request v :: rest → s.pushRoom →
    ∃ u, step s = .next u ∧ u.run = .run ∧ u.pc = s.pcb ++ (1 : Nibble) ++ (0 : Nibble) ++ v ∧ u.fi = false ∧
      u.sp = s.sp - 3 ∧ u.inputs = rest

/-- For every mask: the new F is the old F or i (SET), the old F and i (RST); no other state changes; ei_delay at the
end of the instruction says whether I went from 0 to 1; code and clocks. That SET F with I already 1 starts no delay
is decision D13 (log 16). Rules: R44, R150, R151. -/
def Obligations.SetAndResetFlags : Prop :=
  ∀ (i : Nibble) (s : State),
    HasCode (.setF i) (0xF4#8 ++ i) 7 ∧ HasCode (.rstF i) (0xF5#8 ++ i) 7 ∧
    (∃ t, exec (.setF i) s = .next t ∧ t.f = s.f ||| i ∧
      t = { s with fi := t.fi, fd := t.fd, fz := t.fz, fc := t.fc } ∧
      (endOfInstr (.setF i) s t).eiDelay = (!s.fi && t.fi)) ∧
    ∃ t, exec (.rstF i) s = .next t ∧ t.f = s.f &&& i ∧
      t = { s with fi := t.fi, fd := t.fd, fz := t.fz, fc := t.fc } ∧ (endOfInstr (.rstF i) s t).eiDelay = false

/-- Code, clocks and effect of the eight; EI ends with ei_delay 1 if I was 0 and with ei_delay 0 if I was 1, the
latter by decision D13 (log 16); after DI no request is accepted. Rules: R44, R152, R153, R154, R155, R156, R157,
R158, R159. -/
def Obligations.SingleFlagForms : Prop :=
  ∀ s : State,
    (HasCode .scf 0xF41 7 ∧ exec .scf s = .next { s with fc := true }) ∧
    (HasCode .rcf 0xF5E 7 ∧ exec .rcf s = .next { s with fc := false }) ∧
    (HasCode .szf 0xF42 7 ∧ exec .szf s = .next { s with fz := true }) ∧
    (HasCode .rzf 0xF5D 7 ∧ exec .rzf s = .next { s with fz := false }) ∧
    (HasCode .sdf 0xF44 7 ∧ exec .sdf s = .next { s with fd := true }) ∧
    (HasCode .rdf 0xF5B 7 ∧ exec .rdf s = .next { s with fd := false }) ∧
    (HasCode .ei 0xF48 7 ∧ exec .ei s = .next { s with fi := true } ∧
      (endOfInstr .ei s { s with fi := true }).eiDelay = !s.fi) ∧
    (HasCode .di 0xF57 7 ∧ exec .di s = .next { s with fi := false } ∧
      ∀ v : Nibble, (endOfInstr .di s { s with fi := false }).accepts v = false)

/-- Over whole steps: if the fetched instruction takes I from 0 to 1 and a request is presented, the step ends where
the instruction ends, ei_delay set, the request turned away; from a state with I = 1 and ei_delay set, an instruction
other than PSET that keeps I = 1 ends in the entry of the request presented at its boundary, from the state the
instruction leaves: with the three stack words present that entry is the step. Where the entry finds no memory for the
return address and no reset comes, that stop is the step. That POP F counts is decision D9, that a redundant EI does
not is D13 (log 16). Rules: R44, R160. -/
def Obligations.InterruptEnableDelay : Prop :=
  (∀ (s t : State) (i : Instr) (v : Nibble) (rest : List Input), Fetches s i → exec i s.advance = .next t →
    s.fi = false → t.fi = true → s.inputs = .request v :: rest →
    step s = .next
      { t with
          nbp := t.pcb, npp := t.pcp, afterPset := false, eiDelay := true, clocks := t.clocks + clocksOf i
          inputs := rest }) ∧
  ∀ (s t : State) (i : Instr) (v : Nibble) (rest : List Input), Fetches s i → exec i s.advance = .next t →
    s.fi = true → s.eiDelay = true → isPset i = false → t.fi = true → v ≠ 0 → s.inputs = .request v :: rest →
    let e : State :=
      { t with
          nbp := t.pcb, npp := t.pcp, afterPset := false, eiDelay := false, clocks := t.clocks + clocksOf i
          inputs := rest }
    (t.pushRoom → ∃ u, raiseInterrupt v e = .ok u ∧ step s = .next u) ∧
    (∀ u, raiseInterrupt v e = .ok u → step s = .next u) ∧
    ∀ f, raiseInterrupt v e = .error f → (∀ x ∈ rest, x ≠ .reset) → step s = .fault f

/-- With something behind the word below SP (and behind the source operand): SP less 1 modulo 256 (D6), the source
read before the decrement (D10) stored there, F as I:D:Z:C; nothing else changes; codes and clocks. Rules: R165, R166,
R167, R168, R169, R170, R171, R172, R187, R188, R189. -/
def Obligations.PushEffects : Prop :=
  ∀ s : State, s.present (stackAddr (s.sp - 1)) = true →
    let put := fun (u : State) (v : Nibble) => ({ u with sp := s.sp - 1 } : State).store (stackAddr (s.sp - 1)) v
    (∀ r : Sel, HasCode (.pushR r) (0b1111110000#10 ++ r.bits) 5 ∧
      (s.selPresent r = true → exec (.pushR r) s = .next (put (s.touchSel r) (s.sel r)))) ∧
    (HasCode .pushXP 0xFC4 5 ∧ exec .pushXP s = .next (put s s.xp)) ∧
    (HasCode .pushXH 0xFC5 5 ∧ exec .pushXH s = .next (put s s.xh)) ∧
    (HasCode .pushXL 0xFC6 5 ∧ exec .pushXL s = .next (put s s.xl)) ∧
    (HasCode .pushYP 0xFC7 5 ∧ exec .pushYP s = .next (put s s.yp)) ∧
    (HasCode .pushYH 0xFC8 5 ∧ exec .pushYH s = .next (put s s.yh)) ∧
    (HasCode .pushYL 0xFC9 5 ∧ exec .pushYL s = .next (put s s.yl)) ∧
    (HasCode .pushF 0xFCA 5 ∧ ∃ w : Nibble, exec .pushF s = .next (put s w) ∧
      w.getLsbD 3 = s.fi ∧ w.getLsbD 2 = s.fd ∧ w.getLsbD 1 = s.fz ∧ w.getLsbD 0 = s.fc)

/-- With something behind M(SP) (and behind the destination operand): the word at SP goes to the destination after SP
grows by 1 modulo 256 (D6, D10); POP F loads all four flags; nothing else changes. The codes and clocks of POP are
general knowledge (log 11). Rules: R173, R174, R175, R176, R177, R178, R179, R180, R187, R188, R189. -/
def Obligations.PopEffects : Prop :=
  ∀ s : State, s.present (stackAddr s.sp) = true →
    let v := s.word (stackAddr s.sp)
    let up : State := { s.touch (stackAddr s.sp) with sp := s.sp + 1 }
    (∀ r : Sel, HasCode (.popR r) (0b1111110100#10 ++ r.bits) 5 ∧
      (s.selPresent r = true → exec (.popR r) s = .next (up.putSel r v))) ∧
    (HasCode .popXP 0xFD4 5 ∧ exec .popXP s = .next { up with xp := v }) ∧
    (HasCode .popXH 0xFD5 5 ∧ exec .popXH s = .next { up with xh := v }) ∧
    (HasCode .popXL 0xFD6 5 ∧ exec .popXL s = .next { up with xl := v }) ∧
    (HasCode .popYP 0xFD7 5 ∧ exec .popYP s = .next { up with yp := v }) ∧
    (HasCode .popYH 0xFD8 5 ∧ exec .popYH s = .next { up with yh := v }) ∧
    (HasCode .popYL 0xFD9 5 ∧ exec .popYL s = .next { up with yl := v }) ∧
    (HasCode .popF 0xFDA 5 ∧ exec .popF s =
      .next { up with fi := v.getLsbD 3, fd := v.getLsbD 2, fz := v.getLsbD 1, fc := v.getLsbD 0 })

/-- With the word below SP in RAM, each of the 11 sources of PUSH (A, B, MX, MY where something is behind the address,
the six index parts, F) is pushed, and each of the 11 destinations of POP right after loads exactly the word pushed,
gives SP back, and changes nothing else: no register, no flag, no word but the stack slot and, for POP MX and POP MY,
the destination. SP counts modulo 256 (D6). Rules: R67, R165, R166, R172, R173, R174, R180, R187, R188, R189. -/
def Obligations.PushThenPop : Prop :=
  ∀ s : State, s.kindAt (stackAddr (s.sp - 1)) = .ram →
    ∀ p ∈ [(Instr.pushR .a, s, s.a), (.pushR .b, s, s.b), (.pushR .mx, s.touchSel .mx, s.sel .mx),
        (.pushR .my, s.touchSel .my, s.sel .my), (.pushXP, s, s.xp), (.pushXH, s, s.xh), (.pushXL, s, s.xl),
        (.pushYP, s, s.yp), (.pushYH, s, s.yh), (.pushYL, s, s.yl), (.pushF, s, s.f)],
      (p.1 = .pushR .mx → s.selPresent .mx = true) → (p.1 = .pushR .my → s.selPresent .my = true) →
      ∃ t, exec p.1 s = .next t ∧
        (let o : State := { p.2.1 with ram := t.ram }
         let v := p.2.2
         (∀ q ∈ [(Instr.popR .a, { o with a := v }), (.popR .b, { o with b := v }), (.popXP, { o with xp := v }),
             (.popXH, { o with xh := v }), (.popXL, { o with xl := v }), (.popYP, { o with yp := v }),
             (.popYH, { o with yh := v }), (.popYL, { o with yl := v })],
           exec q.1 t = .next q.2) ∧
         (∀ r ∈ [Sel.mx, .my], s.selPresent r = true → exec (.popR r) t = .next (o.putSel r v)) ∧
         ∃ u, exec .popF t = .next u ∧ u.f = v ∧ u = { o with fi := u.fi, fd := u.fd, fz := u.fz, fc := u.fc }) ∧
        ∀ a : Addr, a ≠ stackAddr (s.sp - 1) → t.ramWord a = s.ramWord a

/-- INC SP and DEC SP count modulo 256 (D6) and touch no memory; LD SPH,r and LD SPL,r replace one half of SP and keep
the other; LD r,SPH and LD r,SPL store one half. The codes of the LD forms are general knowledge (log 11). Rules:
R181, R182, R183, R184, R185, R186. -/
def Obligations.StackPointerTransfers : Prop :=
  ∀ (s : State) (r : Sel),
    (HasCode .incSP 0xFDB 5 ∧ ∃ t, exec .incSP s = .next t ∧ t = { s with sp := t.sp } ∧
      t.sp.toNat = (s.sp.toNat + 1) % 256) ∧
    (HasCode .decSP 0xFCB 5 ∧ ∃ t, exec .decSP s = .next t ∧ t = { s with sp := t.sp } ∧
      t.sp.toNat = (s.sp.toNat + 255) % 256) ∧
    (HasCode (.ldSPHR r) (0b1111111000#10 ++ r.bits) 5 ∧ HasCode (.ldSPLR r) (0b1111111100#10 ++ r.bits) 5 ∧
      HasCode (.ldRSPH r) (0b1111111001#10 ++ r.bits) 5 ∧ HasCode (.ldRSPL r) (0b1111111101#10 ++ r.bits) 5) ∧
    (s.selPresent r = true →
      (∃ t, exec (.ldSPHR r) s = .next t ∧ t = { s.touchSel r with sp := t.sp } ∧
        t.sp.toNat / 16 = (s.sel r).toNat ∧ t.sp.toNat % 16 = s.sp.toNat % 16) ∧
      (∃ t, exec (.ldSPLR r) s = .next t ∧ t = { s.touchSel r with sp := t.sp } ∧
        t.sp.toNat / 16 = s.sp.toNat / 16 ∧ t.sp.toNat % 16 = (s.sel r).toNat) ∧
      exec (.ldRSPH r) s = .next (s.putSel r (BitVec.ofNat 4 (s.sp.toNat / 16))) ∧
      exec (.ldRSPL r) s = .next (s.putSel r (BitVec.ofNat 4 s.sp.toNat)))

/-- INC X and INC Y add 1 modulo 256; LD X,e and LD Y,e load both halves; nothing else changes; codes and clocks. That
XP and YP stay when X or Y overflows is the reading that R24 marks as derived. Rules: R24, R195, R196, R197, R198. -/
def Obligations.IncrementAndLoadIndex : Prop :=
  ∀ (s : State) (e : Byte),
    (HasCode .incX 0xEE0 5 ∧ ∃ t, exec .incX s = .next t ∧ t = { s with xh := t.xh, xl := t.xl } ∧
      t.xh.toNat * 16 + t.xl.toNat = (s.xh.toNat * 16 + s.xl.toNat + 1) % 256) ∧
    (HasCode .incY 0xEF0 5 ∧ ∃ t, exec .incY s = .next t ∧ t = { s with yh := t.yh, yl := t.yl } ∧
      t.yh.toNat * 16 + t.yl.toNat = (s.yh.toNat * 16 + s.yl.toNat + 1) % 256) ∧
    (HasCode (.ldXE e) (0b1011#4 ++ e) 5 ∧ ∃ t, exec (.ldXE e) s = .next t ∧ t = { s with xh := t.xh, xl := t.xl } ∧
      t.xh.toNat = e.toNat / 16 ∧ t.xl.toNat = e.toNat % 16) ∧
    (HasCode (.ldYE e) (0b1000#4 ++ e) 5 ∧ ∃ t, exec (.ldYE e) s = .next t ∧ t = { s with yh := t.yh, yl := t.yl } ∧
      t.yh.toNat = e.toNat / 16 ∧ t.yl.toNat = e.toNat % 16)

/-- With the operand present: the part becomes x[r], read at the index value from before the load (D10); nothing else
changes (but what reading a peripheral register does); codes and clocks. Rules: R199, R200, R201, R202, R203, R204,
R221. -/
def Obligations.LoadIndexParts : Prop :=
  ∀ (s : State) (r : Sel), s.selPresent r = true →
    (HasCode (.ldXPR r) (0b1110100000#10 ++ r.bits) 5 ∧ exec (.ldXPR r) s = .next { s.touchSel r with xp := s.sel r }) ∧
    (HasCode (.ldXHR r) (0b1110100001#10 ++ r.bits) 5 ∧ exec (.ldXHR r) s = .next { s.touchSel r with xh := s.sel r }) ∧
    (HasCode (.ldXLR r) (0b1110100010#10 ++ r.bits) 5 ∧ exec (.ldXLR r) s = .next { s.touchSel r with xl := s.sel r }) ∧
    (HasCode (.ldYPR r) (0b1110100100#10 ++ r.bits) 5 ∧ exec (.ldYPR r) s = .next { s.touchSel r with yp := s.sel r }) ∧
    (HasCode (.ldYHR r) (0b1110100101#10 ++ r.bits) 5 ∧ exec (.ldYHR r) s = .next { s.touchSel r with yh := s.sel r }) ∧
    (HasCode (.ldYLR r) (0b1110100110#10 ++ r.bits) 5 ∧ exec (.ldYLR r) s = .next { s.touchSel r with yl := s.sel r })

/-- With the operand present: x[r] becomes the part, stored at the unchanged index (D10); codes and clocks. Rules:
R205, R206, R207, R208, R209, R210, R221. -/
def Obligations.StoreIndexParts : Prop :=
  ∀ (s : State) (r : Sel), s.selPresent r = true →
    (HasCode (.ldRXP r) (0b1110101000#10 ++ r.bits) 5 ∧ exec (.ldRXP r) s = .next (s.putSel r s.xp)) ∧
    (HasCode (.ldRXH r) (0b1110101001#10 ++ r.bits) 5 ∧ exec (.ldRXH r) s = .next (s.putSel r s.xh)) ∧
    (HasCode (.ldRXL r) (0b1110101010#10 ++ r.bits) 5 ∧ exec (.ldRXL r) s = .next (s.putSel r s.xl)) ∧
    (HasCode (.ldRYP r) (0b1110101100#10 ++ r.bits) 5 ∧ exec (.ldRYP r) s = .next (s.putSel r s.yp)) ∧
    (HasCode (.ldRYH r) (0b1110101101#10 ++ r.bits) 5 ∧ exec (.ldRYH r) s = .next (s.putSel r s.yh)) ∧
    (HasCode (.ldRYL r) (0b1110101110#10 ++ r.bits) 5 ∧ exec (.ldRYL r) s = .next (s.putSel r s.yl))

/-- For each half: the new half is the low four bits of half + i + C, C the fifth bit, Z whether the four bits are
zero; the D flag has no say; nothing else changes; codes and clocks. Rules: R211, R212, R213, R214. -/
def Obligations.AddToIndexHalves : Prop :=
  ∀ (s : State) (i : Nibble),
    (HasCode (.adcXHI i) (0xA0#8 ++ i) 7 ∧ exec (.adcXHI i) s = .next
      { s.withCZ (decide (16 ≤ s.xh.toNat + i.toNat + s.fc.toNat)) (s.xh + i + BitVec.ofNat 4 s.fc.toNat) with
          xh := s.xh + i + BitVec.ofNat 4 s.fc.toNat }) ∧
    (HasCode (.adcXLI i) (0xA1#8 ++ i) 7 ∧ exec (.adcXLI i) s = .next
      { s.withCZ (decide (16 ≤ s.xl.toNat + i.toNat + s.fc.toNat)) (s.xl + i + BitVec.ofNat 4 s.fc.toNat) with
          xl := s.xl + i + BitVec.ofNat 4 s.fc.toNat }) ∧
    (HasCode (.adcYHI i) (0xA2#8 ++ i) 7 ∧ exec (.adcYHI i) s = .next
      { s.withCZ (decide (16 ≤ s.yh.toNat + i.toNat + s.fc.toNat)) (s.yh + i + BitVec.ofNat 4 s.fc.toNat) with
          yh := s.yh + i + BitVec.ofNat 4 s.fc.toNat }) ∧
    (HasCode (.adcYLI i) (0xA3#8 ++ i) 7 ∧ exec (.adcYLI i) s = .next
      { s.withCZ (decide (16 ≤ s.yl.toNat + i.toNat + s.fc.toNat)) (s.yl + i + BitVec.ofNat 4 s.fc.toNat) with
          yl := s.yl + i + BitVec.ofNat 4 s.fc.toNat })

/-- For each half: C is (half < i) unsigned, Z is (half = i), the incoming C and D have no say; codes and clocks.
Rules: R215, R216, R217, R218. -/
def Obligations.CompareIndexHalves : Prop :=
  ∀ (s : State) (i : Nibble),
    (HasCode (.cpXHI i) (0xA4#8 ++ i) 7 ∧
      exec (.cpXHI i) s = .next { s with fc := decide (s.xh.toNat < i.toNat), fz := decide (s.xh = i) }) ∧
    (HasCode (.cpXLI i) (0xA5#8 ++ i) 7 ∧
      exec (.cpXLI i) s = .next { s with fc := decide (s.xl.toNat < i.toNat), fz := decide (s.xl = i) }) ∧
    (HasCode (.cpYHI i) (0xA6#8 ++ i) 7 ∧
      exec (.cpYHI i) s = .next { s with fc := decide (s.yh.toNat < i.toNat), fz := decide (s.yh = i) }) ∧
    (HasCode (.cpYLI i) (0xA7#8 ++ i) 7 ∧
      exec (.cpYLI i) s = .next { s with fc := decide (s.yl.toNat < i.toNat), fz := decide (s.yl = i) })

/-- After the two instructions X is X + e + C modulo 256 with e = j:i, C the carry out of the eight bits, XP
unchanged, in decimal mode too; the same for Y. Rules: R211, R212, R213, R214, R220. -/
def Obligations.IndexByteAddition : Prop :=
  ∀ (s : State) (e : Byte),
    (∃ t u, exec (.adcXLI (e.extractLsb' 0 4)) s = .next t ∧ exec (.adcXHI (e.extractLsb' 4 4)) t = .next u ∧
      u.x = BitVec.ofNat 8 (s.x.toNat + e.toNat + s.fc.toNat) ∧
      u.fc = decide (256 ≤ s.x.toNat + e.toNat + s.fc.toNat) ∧ u.xp = s.xp ∧ u.iy = s.iy ∧ u.fd = s.fd) ∧
    (∃ t u, exec (.adcYLI (e.extractLsb' 0 4)) s = .next t ∧ exec (.adcYHI (e.extractLsb' 4 4)) t = .next u ∧
      u.y = BitVec.ofNat 8 (s.y.toNat + e.toNat + s.fc.toNat) ∧
      u.fc = decide (256 ≤ s.y.toNat + e.toNat + s.fc.toNat) ∧ u.yp = s.yp ∧ u.ix = s.ix ∧ u.fd = s.fd)

/-- With the operands present: the source is read once and then the destination written (D10); no flag is written. The
5 clocks are general knowledge (log 11). Rules: R225, R226, R236, R239. -/
def Obligations.LoadsAndMoves : Prop :=
  ∀ (s : State) (r q : Sel) (i : Nibble), s.selPresent r = true → s.selPresent q = true →
    (HasCode (.ldRI r i) (0b111000#6 ++ r.bits ++ i) 5 ∧ exec (.ldRI r i) s = .next (s.putSel r i)) ∧
    (HasCode (.ldRQ r q) (0xEC#8 ++ r.bits ++ q.bits) 5 ∧
      exec (.ldRQ r q) s = .next ((s.touchSel q).putSel r (s.sel q)))

/-- With something behind 00nH: the word there goes to A or B, or A or B goes there; RP becomes n; nothing else
changes. The codes are general knowledge (log 11). Rules: R27, R66, R227, R228, R229, R230, R238. -/
def Obligations.DirectLoads : Prop :=
  ∀ (s : State) (n : Nibble), let m : Addr := BitVec.ofNat 12 n.toNat
    s.present m = true →
    (HasCode (.ldAMn n) (0xFA#8 ++ n) 5 ∧ exec (.ldAMn n) s = .next { s.touch m with rp := n, a := s.word m }) ∧
    (HasCode (.ldBMn n) (0xFB#8 ++ n) 5 ∧ exec (.ldBMn n) s = .next { s.touch m with rp := n, b := s.word m }) ∧
    (HasCode (.ldMnA n) (0xF8#8 ++ n) 5 ∧ exec (.ldMnA n) s = .next { s.store m s.a with rp := n }) ∧
    (HasCode (.ldMnB n) (0xF9#8 ++ n) 5 ∧ exec (.ldMnB n) s = .next { s.store m s.b with rp := n })

/-- With the operands present: the transfer is a plain load at the index value from before the increment (general
knowledge, log 11), then the 8-bit X or Y grows by 1, its page part and the flags unchanged. Rules: R231, R232, R233,
R234, R237. -/
def Obligations.PostIncrementLoads : Prop :=
  ∀ (s : State) (r q : Sel) (i : Nibble),
    (s.present s.ix = true →
      HasCode (.ldpxMXI i) (0xE6#8 ++ i) 5 ∧ exec (.ldpxMXI i) s = .next ((s.store s.ix i).incX 1)) ∧
    (s.present s.iy = true →
      HasCode (.ldpyMYI i) (0xE7#8 ++ i) 5 ∧ exec (.ldpyMYI i) s = .next ((s.store s.iy i).incY 1)) ∧
    (s.selPresent r = true → s.selPresent q = true →
      (HasCode (.ldpxRQ r q) (0xEE#8 ++ r.bits ++ q.bits) 5 ∧
        exec (.ldpxRQ r q) s = .next (((s.touchSel q).putSel r (s.sel q)).incX 1)) ∧
      (HasCode (.ldpyRQ r q) (0xEF#8 ++ r.bits ++ q.bits) 5 ∧
        exec (.ldpyRQ r q) s = .next (((s.touchSel q).putSel r (s.sel q)).incY 1)))

/-- With both words present LBPX completes: the two stores, X plus 2 modulo 256, nothing else; with both words RAM the
byte can be read back nibble by nibble, least significant at the lower address, and every other word reads as before.
The second address wraps inside the page (D8, log 14). Rules: R65, R69, R235. -/
def Obligations.ByteLoad : Prop :=
  ∀ (s : State) (e : Byte), let hiAddr : Addr := s.xp ++ BitVec.ofNat 8 (s.x.toNat + 1)
    HasCode (.lbpx e) (0b1001#4 ++ e) 5 ∧
    (s.present s.ix = true → s.present hiAddr = true →
      exec (.lbpx e) s = .next (((s.store s.ix (e.extractLsb' 0 4)).store hiAddr (e.extractLsb' 4 4)).incX 2)) ∧
    (s.kindAt s.ix = .ram → s.kindAt hiAddr = .ram →
      ∃ t, exec (.lbpx e) s = .next t ∧ t.ramWord hiAddr ++ t.ramWord s.ix = e ∧
        t.x.toNat = (s.x.toNat + 2) % 256 ∧ t.xp = s.xp ∧ t.f = s.f ∧
        ∀ a : Addr, a ≠ s.ix → a ≠ hiAddr → t.ramWord a = s.ramWord a)

/-- For every operand form, memory ones included: the destination becomes the low four bits of the exact sum, C says
whether the sum is 16 or more; the destination operand is read before the source (D10); nothing else changes. Codes
and clocks. Two reads of one peripheral register that both operands name are the choice of log 23. Rules: R245, R249,
R250, R251, R252, R253. -/
def Obligations.HexadecimalAddition : Prop :=
  ∀ (s : State) (r q : Sel) (k : Nibble), s.selPresent r = true → s.selPresent q = true → s.fd = false →
    HasCode (.addRI r k) (0b110000#6 ++ r.bits ++ k) 7 ∧ HasCode (.adcRI r k) (0b110001#6 ++ r.bits ++ k) 7 ∧
    HasCode (.addRQ r q) (0xA8#8 ++ r.bits ++ q.bits) 7 ∧ HasCode (.adcRQ r q) (0xA9#8 ++ r.bits ++ q.bits) 7 ∧
    (∀ p ∈ [(Instr.addRI r k, 0), (Instr.adcRI r k, s.fc.toNat)],
      let n := (s.sel r).toNat + k.toNat + p.2
      exec p.1 s = .next (((s.touchSel r).withCZ (decide (16 ≤ n)) (BitVec.ofNat 4 n)).putSel r (BitVec.ofNat 4 n))) ∧
    (∀ p ∈ [(Instr.addRQ r q, 0), (Instr.adcRQ r q, s.fc.toNat)],
      let s1 := s.touchSel r
      let n := (s.sel r).toNat + (s1.sel q).toNat + p.2
      exec p.1 s =
        .next (((s1.touchSel q).withCZ (decide (16 ≤ n)) (BitVec.ofNat 4 n)).putSel r (BitVec.ofNat 4 n)))

/-- For every operand form: the destination becomes the difference modulo 16, C says whether the exact difference is
negative; nothing else changes. Codes and clocks. Two reads of one peripheral register that both operands name are the
choice of log 23. Rules: R246, R249, R254, R255, R256. -/
def Obligations.HexadecimalSubtraction : Prop :=
  ∀ (s : State) (r q : Sel) (k : Nibble), s.selPresent r = true → s.selPresent q = true → s.fd = false →
    HasCode (.sbcRI r k) (0b110101#6 ++ r.bits ++ k) 7 ∧ HasCode (.subRQ r q) (0xAA#8 ++ r.bits ++ q.bits) 7 ∧
    HasCode (.sbcRQ r q) (0xAB#8 ++ r.bits ++ q.bits) 7 ∧
    (let v := s.sel r
     let d := v - k - BitVec.ofNat 4 s.fc.toNat
     exec (.sbcRI r k) s =
       .next (((s.touchSel r).withCZ (decide (v.toNat < k.toNat + s.fc.toNat)) d).putSel r d)) ∧
    (∀ p ∈ [(Instr.subRQ r q, 0), (Instr.sbcRQ r q, s.fc.toNat)],
      let s1 := s.touchSel r
      let v := s.sel r
      let u := s1.sel q
      let d := v - u - BitVec.ofNat 4 p.2
      exec p.1 s = .next (((s1.touchSel q).withCZ (decide (v.toNat < u.toNat + p.2)) d).putSel r d))

/-- Both operands at most 9: the destination becomes the sum modulo 10, C says whether the sum is 10 or more, Z
whether the digit is zero. The decimal branch is general knowledge (log 13). Two reads of one peripheral register that
both operands name are the choice of log 23. Rules: R245, R247, R250, R251, R252, R253. -/
def Obligations.DecimalAddition : Prop :=
  ∀ (s : State) (r q : Sel) (k : Nibble), s.selPresent r = true → s.selPresent q = true → s.fd = true → s.sel r ≤ 9 →
    (∀ p ∈ [(Instr.addRI r k, 0), (Instr.adcRI r k, s.fc.toNat)], k ≤ 9 →
      let n := (s.sel r).toNat + k.toNat + p.2
      let d := BitVec.ofNat 4 (n % 10)
      exec p.1 s = .next (((s.touchSel r).withCZ (decide (10 ≤ n)) d).putSel r d)) ∧
    (∀ p ∈ [(Instr.addRQ r q, 0), (Instr.adcRQ r q, s.fc.toNat)],
      let s1 := s.touchSel r
      s1.sel q ≤ 9 →
      let n := (s.sel r).toNat + (s1.sel q).toNat + p.2
      let d := BitVec.ofNat 4 (n % 10)
      exec p.1 s = .next (((s1.touchSel q).withCZ (decide (10 ≤ n)) d).putSel r d))

/-- Both operands at most 9: the destination becomes the difference modulo 10, C says whether the exact difference is
negative. The decimal branch is general knowledge (log 13). Two reads of one peripheral register that both operands
name are the choice of log 23. Rules: R246, R247, R254, R255, R256. -/
def Obligations.DecimalSubtraction : Prop :=
  ∀ (s : State) (r q : Sel) (k : Nibble), s.selPresent r = true → s.selPresent q = true → s.fd = true → s.sel r ≤ 9 →
    (k ≤ 9 →
     let v := (s.sel r).toNat
     let m := k.toNat + s.fc.toNat
     let d := BitVec.ofNat 4 ((v + 10 - m) % 10)
     exec (.sbcRI r k) s = .next (((s.touchSel r).withCZ (decide (v < m)) d).putSel r d)) ∧
    (∀ p ∈ [(Instr.subRQ r q, 0), (Instr.sbcRQ r q, s.fc.toNat)],
      let s1 := s.touchSel r
      s1.sel q ≤ 9 →
      let v := (s.sel r).toNat
      let m := (s1.sel q).toNat + p.2
      let d := BitVec.ofNat 4 ((v + 10 - m) % 10)
      exec p.1 s = .next (((s1.touchSel q).withCZ (decide (v < m)) d).putSel r d))

/-- The model of D3 (log 9): result, C and Z are the next three free values, whatever they are; every other effect is
as in the ordinary case, and one draw is counted. Two reads of one peripheral register that both operands name are the
choice of log 23. Rules: R248. -/
def Obligations.DecimalOnOtherOperands : Prop :=
  ∀ (s : State) (r q : Sel) (k : Nibble), s.selPresent r = true → s.selPresent q = true → s.fd = true →
    let free := fun u : State =>
      ({ u with fc := decimalCarry u.draws, fz := decimalZero u.draws, draws := u.draws + 1 } : State).putSel r
        (decimalResult u.draws)
    (¬ (s.sel r ≤ 9 ∧ k ≤ 9) → ∀ i ∈ [Instr.addRI r k, .adcRI r k, .sbcRI r k], exec i s = .next (free (s.touchSel r))) ∧
    (¬ (s.sel r ≤ 9 ∧ (s.touchSel r).sel q ≤ 9) →
      ∀ i ∈ [Instr.addRQ r q, .adcRQ r q, .subRQ r q, .sbcRQ r q],
        exec i s = .next (free ((s.touchSel r).touchSel q)))

/-- With the words present: M(X) or M(Y) becomes the sum or difference modulo 16 of itself, r and C, C and Z from the
operation, then X or Y plus 1 modulo 256; the memory word is read before r (R71, log 15). Two reads of one peripheral
register that both operands name are the choice of log 23. Rules: R245, R246, R271, R272, R273, R274. -/
def Obligations.MemoryAddAndSubtract : Prop :=
  ∀ (s : State) (r : Sel), s.selPresent r = true → s.fd = false →
    let c := s.fc.toNat
    let result := fun (a : Addr) (d : Nibble) (carry : Bool) =>
      ((((s.touch a).touchSel r).withCZ carry d).store a d)
    let sum := fun a : Addr => (s.word a).toNat + ((s.touch a).sel r).toNat + c
    let diff := fun a : Addr => s.word a - (s.touch a).sel r - BitVec.ofNat 4 c
    let borrow := fun a : Addr => decide ((s.word a).toNat < ((s.touch a).sel r).toNat + c)
    HasCode (.acpx r) (0b1111001010#10 ++ r.bits) 7 ∧ HasCode (.acpy r) (0b1111001011#10 ++ r.bits) 7 ∧
    HasCode (.scpx r) (0b1111001110#10 ++ r.bits) 7 ∧ HasCode (.scpy r) (0b1111001111#10 ++ r.bits) 7 ∧
    (s.present s.ix = true →
      exec (.acpx r) s = .next ((result s.ix (BitVec.ofNat 4 (sum s.ix)) (decide (16 ≤ sum s.ix))).incX 1) ∧
      exec (.scpx r) s = .next ((result s.ix (diff s.ix) (borrow s.ix)).incX 1)) ∧
    (s.present s.iy = true →
      exec (.acpy r) s = .next ((result s.iy (BitVec.ofNat 4 (sum s.iy)) (decide (16 ≤ sum s.iy))).incY 1) ∧
      exec (.scpy r) s = .next ((result s.iy (diff s.iy) (borrow s.iy)).incY 1))

/-- The multi-digit decimal step: both operands at most 9 give the digit of the sum or difference and the decimal
carry or borrow; otherwise result, C and Z are free (D3, log 9). X or Y plus 1 either way. The decimal branch is
general knowledge (log 13). Two reads of one peripheral register that both operands name are the choice of log 23.
Rules: R245, R246, R248, R271, R272, R273, R274. -/
def Obligations.MemoryDecimalDigits : Prop :=
  ∀ (s : State) (r : Sel), s.selPresent r = true → s.fd = true →
    let c := s.fc.toNat
    let digits := fun a : Addr => s.word a ≤ 9 ∧ (s.touch a).sel r ≤ 9
    let sum := fun a : Addr => (s.word a).toNat + ((s.touch a).sel r).toNat + c
    let added := fun a : Addr =>
      (((s.touch a).touchSel r).withCZ (decide (10 ≤ sum a)) (BitVec.ofNat 4 (sum a % 10))).store a
        (BitVec.ofNat 4 (sum a % 10))
    let less := fun a : Addr => ((s.word a).toNat + 10 - (((s.touch a).sel r).toNat + c)) % 10
    let taken := fun a : Addr =>
      (((s.touch a).touchSel r).withCZ (decide ((s.word a).toNat < ((s.touch a).sel r).toNat + c))
        (BitVec.ofNat 4 (less a))).store a (BitVec.ofNat 4 (less a))
    let free := fun a : Addr =>
      let u := (s.touch a).touchSel r
      ({ u with fc := decimalCarry u.draws, fz := decimalZero u.draws, draws := u.draws + 1 } : State).store a
        (decimalResult u.draws)
    (s.present s.ix = true →
      (digits s.ix → exec (.acpx r) s = .next ((added s.ix).incX 1) ∧ exec (.scpx r) s = .next ((taken s.ix).incX 1)) ∧
      (¬ digits s.ix → exec (.acpx r) s = .next ((free s.ix).incX 1) ∧ exec (.scpx r) s = .next ((free s.ix).incX 1))) ∧
    (s.present s.iy = true →
      (digits s.iy → exec (.acpy r) s = .next ((added s.iy).incY 1) ∧ exec (.scpy r) s = .next ((taken s.iy).incY 1)) ∧
      (¬ digits s.iy → exec (.acpy r) s = .next ((free s.iy).incY 1) ∧ exec (.scpy r) s = .next ((free s.iy).incY 1)))

/-- For every operand form: each bit of the destination is the operation on the bits of the operands, Z says whether
the result is zero; C, D, I and all else are unchanged; the destination operand is read before the source (D10). Codes
and clocks. The clocks of OR and NOT are general knowledge (log 11). Two reads of one peripheral register that both
operands name are the choice of log 23. Rules: R249, R257, R258, R259, R260, R261, R262, R275. -/
def Obligations.LogicOperations : Prop :=
  ∀ (s : State) (r q : Sel) (k : Nibble), s.selPresent r = true → s.selPresent q = true →
    HasCode (.andRI r k) (0b110010#6 ++ r.bits ++ k) 7 ∧ HasCode (.andRQ r q) (0xAC#8 ++ r.bits ++ q.bits) 7 ∧
    HasCode (.orRI r k) (0b110011#6 ++ r.bits ++ k) 7 ∧ HasCode (.orRQ r q) (0xAD#8 ++ r.bits ++ q.bits) 7 ∧
    HasCode (.xorRI r k) (0b110100#6 ++ r.bits ++ k) 7 ∧ HasCode (.xorRQ r q) (0xAE#8 ++ r.bits ++ q.bits) 7 ∧
    HasCode (.notR r) (0b110100#6 ++ r.bits ++ 0xF#4) 7 ∧
    let bits := fun (i : Instr) (u : State) (y : Nibble) (op : Bool → Bool → Bool) =>
      ∃ w : Nibble, exec i s = .next (({ u with fz := decide (w = 0) } : State).putSel r w) ∧
        ∀ j : Nat, j < 4 → w.getLsbD j = op ((s.sel r).getLsbD j) (y.getLsbD j)
    bits (.andRI r k) (s.touchSel r) k (· && ·) ∧ bits (.orRI r k) (s.touchSel r) k (· || ·) ∧
    bits (.xorRI r k) (s.touchSel r) k (fun b c => b != c) ∧ bits (.notR r) (s.touchSel r) 0 (fun b _ => !b) ∧
    (let s1 := s.touchSel r
     bits (.andRQ r q) (s1.touchSel q) (s1.sel q) (· && ·) ∧ bits (.orRQ r q) (s1.touchSel q) (s1.sel q) (· || ·) ∧
     bits (.xorRQ r q) (s1.touchSel q) (s1.sel q) (fun b c => b != c))

/-- CP sets C when r is below the other operand and Z when they are equal, whatever D and the incoming C; FAN sets Z
when no bit is common; a memory operand is read once and not written. Codes and clocks. The clocks of CP are general
knowledge (log 11). Two reads of one peripheral register that both operands name are the choice of log 23. Rules:
R249, R263, R264, R265, R266. -/
def Obligations.CompareAndTest : Prop :=
  ∀ (s : State) (r q : Sel) (k : Nibble), s.selPresent r = true → s.selPresent q = true →
    HasCode (.cpRI r k) (0b110111#6 ++ r.bits ++ k) 7 ∧ HasCode (.cpRQ r q) (0xF0#8 ++ r.bits ++ q.bits) 7 ∧
    HasCode (.fanRI r k) (0b110110#6 ++ r.bits ++ k) 7 ∧ HasCode (.fanRQ r q) (0xF1#8 ++ r.bits ++ q.bits) 7 ∧
    let s1 := s.touchSel r
    exec (.cpRI r k) s =
      .next { s1 with fc := decide ((s.sel r).toNat < k.toNat), fz := decide (s.sel r = k) } ∧
    exec (.cpRQ r q) s =
      .next { s1.touchSel q with fc := decide ((s.sel r).toNat < (s1.sel q).toNat), fz := decide (s.sel r = s1.sel q) } ∧
    (∃ z : Bool, exec (.fanRI r k) s = .next { s1 with fz := z } ∧
      (z = true ↔ ∀ j < 4, ((s.sel r).getLsbD j && k.getLsbD j) = false)) ∧
    ∃ z : Bool, exec (.fanRQ r q) s = .next { s1.touchSel q with fz := z } ∧
      (z = true ↔ ∀ j < 4, ((s.sel r).getLsbD j && (s1.sel q).getLsbD j) = false)

/-- For every operand: RLC shifts left with C entering at bit 0 and bit 3 leaving to C; RRC the other way. Z is
unchanged (keeps), whether the result is zero (writes), or one of the two (either, conflict C1, log 10); nothing else
changes. Codes and clocks. Rules: R36, R267, R268. -/
def Obligations.Rotates : Prop :=
  ∀ (s : State) (r : Sel), s.selPresent r = true →
    HasCode (.rlc r) (0xAF#8 ++ r.bits ++ r.bits) 7 ∧ HasCode (.rrc r) (0b1110100011#10 ++ r.bits) 5 ∧
    let v := s.sel r
    let left : Nibble := BitVec.ofNat 4 (2 * v.toNat + s.fc.toNat)
    let right : Nibble := BitVec.ofNat 4 (v.toNat / 2 + 8 * s.fc.toNat)
    ∀ p ∈ [(Instr.rlc r, left, v.getLsbD 3), (Instr.rrc r, right, v.getLsbD 0)],
      (s.dev.rotateZ = .keeps → exec p.1 s = .next (({ s.touchSel r with fc := p.2.2 } : State).putSel r p.2.1)) ∧
      (s.dev.rotateZ = .writes → exec p.1 s = .next (((s.touchSel r).withCZ p.2.2 p.2.1).putSel r p.2.1)) ∧
      (s.dev.rotateZ = .either → ∃ z : Bool, (z = s.fz ∨ z = decide (p.2.1 = 0)) ∧
        exec p.1 s = .next
          (({ s.touchSel r with fc := p.2.2, fz := z, draws := (s.touchSel r).draws + 1 } : State).putSel r p.2.1))

/-- For an operand that is a register or RAM, with D = 0 and RLC_RRC_WRITE_Z true, the two instructions have the same
outcome; with RLC_RRC_WRITE_Z false they differ in Z only. Rules: R253, R267. -/
def Obligations.RotateLeftIsAddWithCarry : Prop :=
  ∀ (s : State) (r : Sel), (∀ a, s.selAddr r = some a → s.kindAt a = .ram) → s.fd = false →
    (s.dev.rotateZ = .writes → exec (.rlc r) s = exec (.adcRQ r r) s) ∧
    (s.dev.rotateZ = .keeps →
      ∃ t u, exec (.rlc r) s = .next t ∧ exec (.adcRQ r r) s = .next u ∧ t = { u with fz := s.fz })

/-- With something behind 00nH: the word plus or minus 1 modulo 16; C on the carry or borrow, Z on zero; RP becomes n;
nothing else changes; codes and clocks. Rules: R27, R66, R269, R270. -/
def Obligations.RegisterAreaCounters : Prop :=
  ∀ (s : State) (n : Nibble), let m : Addr := BitVec.ofNat 12 n.toNat
    s.present m = true →
    (HasCode (.incMn n) (0xF6#8 ++ n) 7 ∧ exec (.incMn n) s = .next
      (({ s.touch m with rp := n, fc := decide (s.word m = 15), fz := decide (s.word m = 15) } : State).store m
        (s.word m + 1))) ∧
    (HasCode (.decMn n) (0xF7#8 ++ n) 7 ∧ exec (.decMn n) s = .next
      (({ s.touch m with rp := n, fc := decide (s.word m = 0), fz := decide (s.word m = 1) } : State).store m
        (s.word m - 1)))

/-- For every instruction and every state from which it completes: I, D, Z and C each keep their value unless R39
lists the instruction as a writer of that flag (RLC and RRC for Z per RLC_RRC_WRITE_Z); interrupt entry writes I to 0
and no other flag. Rules: R39. -/
def Obligations.FlagFrame : Prop :=
  (∀ (i : Instr) (s t : State), exec i s = .next t →
    (writesI i = false → t.fi = s.fi) ∧ (writesD i = false → t.fd = s.fd) ∧
    (writesZ s.dev.rotateZ i = false → t.fz = s.fz) ∧ (writesC i = false → t.fc = s.fc)) ∧
  ∀ (v : Nibble) (s t : State), raiseInterrupt v s = .ok t →
    t.fi = false ∧ t.fd = s.fd ∧ t.fz = s.fz ∧ t.fc = s.fc

/-- For every instruction and every state from which it completes: A, B, XP, XH, XL, YP, YH, YL, SP and RP each keep
their value unless the register is the destination operand or R49 lists the instruction as its writer (post-
increments, stack moves, RP in the Mn forms). Rules: R24, R27, R49, R219. -/
def Obligations.RegisterFrame : Prop :=
  ∀ (i : Instr) (s t : State) (g : Reg), exec i s = .next t → writesReg i g = false → t.reg g = s.reg g

/-- For every instruction and every state from which it completes: the addresses stored to are those the table of R71
gives, computed as the meanings compute them (IX, IY, SP-1 to SP-3 in page 0, 00nH, XP:(X+1)); every other word holds
what it held, and every other address that is not a peripheral register reads as before. Rules: R61, R71, R73. -/
def Obligations.MemoryFrame : Prop :=
  ∀ (i : Instr) (s t : State), exec i s = .next t → ∀ a : Addr, a ∉ storesTo i s →
    t.ramWord a = s.ramWord a ∧ (s.kindAt a ≠ .io → t.word a = s.word a)

/-- For every instruction and every state from which it completes: PCB changes only by the six jumps, PCP and PCS only
by jumps, calls and returns, NBP:NPP only by PSET, the run state only by HALT and SLP; program memory and the device,
the delays, the inputs, the reset count and the clocks are never changed by the execution itself. Rules: R31, R32,
R63, R81, R134. -/
def Obligations.ControlFrame : Prop :=
  ∀ (i : Instr) (s t : State), exec i s = .next t →
    (isJump i = false → t.pcb = s.pcb) ∧
    (writesCounter i = false → t.pcp = s.pcp ∧ t.pcs = s.pcs) ∧
    (isPset i = false → t.nbp = s.nbp ∧ t.npp = s.npp) ∧
    (i ≠ .halt → i ≠ .slp → t.run = s.run) ∧
    t.dev = s.dev ∧ t.afterPset = s.afterPset ∧ t.eiDelay = s.eiDelay ∧ t.inputs = s.inputs ∧
    t.ramEpoch = s.ramEpoch ∧ t.clocks = s.clocks

/-- For every instruction and every state from which it completes: what it appends to the I/O trace is, oldest first,
exactly the accesses of the table of R71 that fall on peripheral registers: each read once, no read of a destination
that is only stored (the order is D10, log 15). Two reads of one peripheral register that both operands name are the
choice of log 23. Rules: R71, R73, R249. -/
def Obligations.AccessesInOrder : Prop :=
  ∀ (i : Instr) (s t : State), exec i s = .next t →
    ∃ l : List IoAccess, t.ioTrace = l ++ s.ioTrace ∧
      l.reverse.map accessOf = (accessesOf i s).filter fun c => decide (s.kindAt c.addr = .io)

/-- For each of the 109 instructions: if something is behind every address of its accesses (R71) it answers a next
state; if not, it stops at one of those addresses that is absent. There is no other stop and no refusal: no
synchronous exception exists. Rules: R71, R76, R300. -/
def Obligations.CompletesUnlessAbsent : Prop :=
  ∀ (i : Instr) (s : State),
    ((∀ c ∈ accessesOf i s, s.present c.addr = true) → ∃ t, exec i s = .next t) ∧
    ((∃ c ∈ accessesOf i s, s.present c.addr = false) →
      ∃ c ∈ accessesOf i s, s.present c.addr = false ∧ exec i s = .fault (.absentDataAddress c.addr))

/-- The six Mn instructions leave RP = n, every other instruction leaves RP; and from two states that differ in RP
only, every instruction has outcomes that differ in RP only. Rules: R27. -/
def Obligations.RegisterPointerIsNotObservable : Prop :=
  (∀ (n : Nibble) (s t : State),
    ∀ i ∈ [Instr.ldAMn n, .ldBMn n, .ldMnA n, .ldMnB n, .incMn n, .decMn n], exec i s = .next t → t.rp = n) ∧
  ∀ (i : Instr) (s : State) (v : Nibble),
    (∀ t, exec i s = .next t → ∃ w : Nibble, exec i { s with rp := v } = .next { t with rp := w } ∧
      ((∀ n : Nibble, i ∉ [Instr.ldAMn n, .ldBMn n, .ldMnA n, .ldMnB n, .incMn n, .decMn n]) → w = v ∧ t.rp = s.rp)) ∧
    ∀ f, exec i s = .fault f → exec i { s with rp := v } = .fault f

/-- When a request with vector v (not 0: there is no vector 0, log 17) is presented at a boundary, in any run state:
the boundary is the entry of interrupt v if the three conditions hold, and leaves the state as it is, with the request
used up as presented (log 21), if one fails. The condition on after_pset is the reading of log 16 (91_not_in_source.md
N25). Rules: R43, R44, R304. -/
def Obligations.InterruptAcceptance : Prop :=
  ∀ (s : State) (v : Nibble) (rest : List Input), v ≠ 0 → s.inputs = .request v :: rest →
    (s.fi = true ∧ s.eiDelay = false ∧ s.afterPset = false →
      s.boundary = raiseInterrupt v { s with inputs := rest }) ∧
    (¬ (s.fi = true ∧ s.eiDelay = false ∧ s.afterPset = false) → s.boundary = .ok { s with inputs := rest })

/-- With room on the stack: PCP, PCSH, PCSL stored at SP-1, SP-2, SP-3 in that order, SP less 3, I 0, NBP and NPP the
vector page, PCP 1, PCS 0:v, RUN, both delays clear; PCB, every register, the flags D, Z, C and every other word of
memory unchanged. The order of the three stores is decision D10 (log 15), SP modulo 256 decision D6 (log 12), NBP from
PCB log 19. Rules: R306, R307. -/
def Obligations.InterruptEntry : Prop :=
  ∀ (s : State) (v : Nibble), s.pushRoom →
    raiseInterrupt v s = .ok
      { ((s.store (stackAddr (s.sp - 1)) s.pcp).store (stackAddr (s.sp - 2)) (s.pcs.extractLsb' 4 4)).store
          (stackAddr (s.sp - 3)) (s.pcs.extractLsb' 0 4) with
        sp := s.sp - 3, fi := false, nbp := s.pcb, npp := 1, pcp := 1, pcs := BitVec.ofNat 8 v.toNat
        run := .run, afterPset := false, eiDelay := false }

/-- With the three stack words in RAM: entry and then RET give back the program counter, SP and every register and
flag but I, which stays 0; only the three stack words of memory changed; the bank is not restored by RET because entry
did not change it. Rules: R129, R306, R307, R312. -/
def Obligations.InterruptThenReturn : Prop :=
  ∀ (s : State) (v : Nibble), s.pushRam →
    ∃ t u, raiseInterrupt v s = .ok t ∧ exec .ret t = .next u ∧
      u = { s with ram := t.ram, fi := false, nbp := s.pcb, npp := 1, run := .run, afterPset := false, eiDelay := false } ∧
      ∀ a : Addr, a ≠ stackAddr (s.sp - 1) → a ≠ stackAddr (s.sp - 2) → a ≠ stackAddr (s.sp - 3) →
        u.ramWord a = s.ramWord a

/-- The parameters IO_READ and IO_WRITE as data of the device (log 6). For every instruction and every state from
which it completes, what the registers hold afterwards is what the accesses recorded leave, in their order, by the
rules of the device. And for a device whose register at IX stores the bits of m and clears the bits of c when it is
read: LD MX,k then LD A,MX reads k in the stored bits and what was held in the others, and LD B,MX right after reads
that with the bits of c clear. Rules: R7, R73, R302, R329. -/
def Obligations.PeripheralRegisters : Prop :=
  (∀ (i : Instr) (s t : State), exec i s = .next t →
    ∃ l : List IoAccess, t.ioTrace = l ++ s.ioTrace ∧ t.ioRegs = l.foldr (ioAfter s.dev.io) s.ioRegs) ∧
  ∀ (s : State) (k m c : Nibble), s.kindAt s.ix = .io →
    s.dev.io.rules =
      [{ isWrite := true, addr := s.ix, tests := [], mask := 0, value := 0, known := 0
         effects := [{ addr := s.ix, keep := ~~~m, take := m, set := 0 }] },
       { isWrite := false, addr := s.ix, tests := [], mask := 0, value := 0, known := 0xF
         effects := [{ addr := s.ix, keep := ~~~c, take := 0, set := 0 }] }] →
    ∃ t u v, exec (.ldRI .mx k) s = .next t ∧ exec (.ldRQ .a .mx) t = .next u ∧ exec (.ldRQ .b .mx) u = .next v ∧
      u.a = (ioHeld s.ioRegs s.ix &&& ~~~m) ||| (k &&& m) ∧ v.b = u.a &&& ~~~c

/-- The parameter UNASSIGNED_OPCODE as data of the device (log 20). For a word without a meaning or outside the
subset, treated as steps in clk clocks: if the steps executed from the advanced state answer t, the step is the
boundary, settled, of t with NBP:NPP reloaded, after_pset 0, ei_delay saying whether I went from 0 to 1, and clk
clocks added, and that state where no input comes; steps that stop stop the step where no reset is to come (log 18).
Each kind of step, before any others: acts does what the instruction does and stops where it stops; put, copy and free
write one place and nothing else, the value given, what the other place holds, the next free value with one draw
counted; skip leaves out the next n steps if the bits of mask are those of value. The 17 places, what each holds and
what writing it changes, are listed. Without steps the word is a NOP. Rules: R32, R44, R46, R101, R102. -/
def Obligations.UnassignedOwnInstructions : Prop :=
  (∀ (s : State) (w : Word) (l : List Micro) (clk : Nat), s.run = .run →
    Cells.lookup s.dev.rom s.pc.toNat = some w → (excludedWord s.dev.excluded w = true ∨ (decode w).toOption = none) →
    treatmentOf s.dev.unassigned w = some (.own l clk) →
    (∀ t, runSteps l 0 0 s.advance = .next t →
      let e : State :=
        { t with
            nbp := t.pcb, npp := t.pcp, afterPset := false, eiDelay := !s.fi && t.fi, clocks := t.clocks + clk }
      step s = e.settle ∧ (t.inputs = [] → step s = .next e)) ∧
    ∀ f, runSteps l 0 0 s.advance = .fault f → (∀ x ∈ s.inputs, x ≠ .reset) → step s = .fault f) ∧
  ∀ (s : State) (temp : Nibble) (l : List Micro),
    let places : List (Place × Nibble × (Nibble → Nibble × State)) :=
      [(.a, s.a, fun v => (temp, { s with a := v })),
       (.b, s.b, fun v => (temp, { s with b := v })),
       (.xp, s.xp, fun v => (temp, { s with xp := v })),
       (.xh, s.xh, fun v => (temp, { s with xh := v })),
       (.xl, s.xl, fun v => (temp, { s with xl := v })),
       (.yp, s.yp, fun v => (temp, { s with yp := v })),
       (.yh, s.yh, fun v => (temp, { s with yh := v })),
       (.yl, s.yl, fun v => (temp, { s with yl := v })),
       (.rp, s.rp, fun v => (temp, { s with rp := v })),
       (.sph, s.sp.extractLsb' 4 4, fun v => (temp, { s with sp := v ++ s.sp.extractLsb' 0 4 })),
       (.spl, s.sp.extractLsb' 0 4, fun v => (temp, { s with sp := s.sp.extractLsb' 4 4 ++ v })),
       (.f, BitVec.ofBool s.fi ++ BitVec.ofBool s.fd ++ BitVec.ofBool s.fz ++ BitVec.ofBool s.fc,
         fun v => (temp, { s with fi := v.getLsbD 3, fd := v.getLsbD 2, fz := v.getLsbD 1, fc := v.getLsbD 0 })),
       (.pcb, s.pcb.setWidth 4, fun v => (temp, { s with pcb := v.setWidth 1 })),
       (.pcp, s.pcp, fun v => (temp, { s with pcp := v })),
       (.pcsh, s.pcs.extractLsb' 4 4, fun v => (temp, { s with pcs := v ++ s.pcs.extractLsb' 0 4 })),
       (.pcsl, s.pcs.extractLsb' 0 4, fun v => (temp, { s with pcs := s.pcs.extractLsb' 4 4 ++ v })),
       (.temp, temp, fun v => (v, s))]
    runSteps [] 0 temp s = .next s ∧
    (∀ i : Instr, runSteps [.acts i] 0 temp s = exec i s ∧
      (∀ t, exec i s = .next t → runSteps (.acts i :: l) 0 temp s = runSteps l 0 temp t) ∧
      ∀ f, exec i s = .fault f → runSteps (.acts i :: l) 0 temp s = .fault f) ∧
    (∀ g : Place, ∃ p ∈ places, p.1 = g) ∧
    ∀ p ∈ places,
      (∀ v : Nibble, runSteps (.put p.1 v :: l) 0 temp s = runSteps l 0 (p.2.2 v).1 (p.2.2 v).2) ∧
      (∀ q ∈ places, runSteps (.copy p.1 q.1 :: l) 0 temp s = runSteps l 0 (p.2.2 q.2.1).1 (p.2.2 q.2.1).2) ∧
      (let x := p.2.2 (unassignedFree s.draws)
       runSteps (.free p.1 :: l) 0 temp s = runSteps l 0 x.1 { x.2 with draws := s.draws + 1 }) ∧
      ∀ (mask value : Nibble) (n : Nat),
        runSteps (.skip p.1 mask value n :: l) 0 temp s =
          runSteps (if p.2.1 &&& mask = value then l.drop n else l) 0 temp s
end

