-- ==== Sys2Proof/Laws/State.lean ====
section
/-! SUPPORT. What each update of State does to each field, one lemma a pair, true by rfl. -/

namespace Sys2Proof.Machine

open Sys2Proof.Config

variable (s : State)

@[simp] theorem State.setPC_pcb (bk : Bit) (pg : Nibble) (st : Byte) : (s.setPC bk pg st).pcb = bk := rfl
@[simp] theorem State.setPC_pcp (bk : Bit) (pg : Nibble) (st : Byte) : (s.setPC bk pg st).pcp = pg := rfl
@[simp] theorem State.setPC_pcs (bk : Bit) (pg : Nibble) (st : Byte) : (s.setPC bk pg st).pcs = st := rfl
@[simp] theorem State.setPC_nbp (bk : Bit) (pg : Nibble) (st : Byte) : (s.setPC bk pg st).nbp = s.nbp := rfl
@[simp] theorem State.setPC_npp (bk : Bit) (pg : Nibble) (st : Byte) : (s.setPC bk pg st).npp = s.npp := rfl
@[simp] theorem State.setPC_sp (bk : Bit) (pg : Nibble) (st : Byte) : (s.setPC bk pg st).sp = s.sp := rfl
@[simp] theorem State.setPC_xp (bk : Bit) (pg : Nibble) (st : Byte) : (s.setPC bk pg st).xp = s.xp := rfl
@[simp] theorem State.setPC_xh (bk : Bit) (pg : Nibble) (st : Byte) : (s.setPC bk pg st).xh = s.xh := rfl
@[simp] theorem State.setPC_xl (bk : Bit) (pg : Nibble) (st : Byte) : (s.setPC bk pg st).xl = s.xl := rfl
@[simp] theorem State.setPC_yp (bk : Bit) (pg : Nibble) (st : Byte) : (s.setPC bk pg st).yp = s.yp := rfl
@[simp] theorem State.setPC_yh (bk : Bit) (pg : Nibble) (st : Byte) : (s.setPC bk pg st).yh = s.yh := rfl
@[simp] theorem State.setPC_yl (bk : Bit) (pg : Nibble) (st : Byte) : (s.setPC bk pg st).yl = s.yl := rfl
@[simp] theorem State.setPC_rp (bk : Bit) (pg : Nibble) (st : Byte) : (s.setPC bk pg st).rp = s.rp := rfl
@[simp] theorem State.setPC_a (bk : Bit) (pg : Nibble) (st : Byte) : (s.setPC bk pg st).a = s.a := rfl
@[simp] theorem State.setPC_b (bk : Bit) (pg : Nibble) (st : Byte) : (s.setPC bk pg st).b = s.b := rfl
@[simp] theorem State.setPC_fi (bk : Bit) (pg : Nibble) (st : Byte) : (s.setPC bk pg st).fi = s.fi := rfl
@[simp] theorem State.setPC_fd (bk : Bit) (pg : Nibble) (st : Byte) : (s.setPC bk pg st).fd = s.fd := rfl
@[simp] theorem State.setPC_fz (bk : Bit) (pg : Nibble) (st : Byte) : (s.setPC bk pg st).fz = s.fz := rfl
@[simp] theorem State.setPC_fc (bk : Bit) (pg : Nibble) (st : Byte) : (s.setPC bk pg st).fc = s.fc := rfl
@[simp] theorem State.setPC_ram (bk : Bit) (pg : Nibble) (st : Byte) : (s.setPC bk pg st).ram = s.ram := rfl
@[simp] theorem State.setPC_run (bk : Bit) (pg : Nibble) (st : Byte) : (s.setPC bk pg st).run = s.run := rfl
@[simp] theorem State.setPC_afterPset (bk : Bit) (pg : Nibble) (st : Byte) : (s.setPC bk pg st).afterPset = s.afterPset := rfl
@[simp] theorem State.setPC_eiDelay (bk : Bit) (pg : Nibble) (st : Byte) : (s.setPC bk pg st).eiDelay = s.eiDelay := rfl
@[simp] theorem State.setPC_inputs (bk : Bit) (pg : Nibble) (st : Byte) : (s.setPC bk pg st).inputs = s.inputs := rfl
@[simp] theorem State.setPC_ioRegs (bk : Bit) (pg : Nibble) (st : Byte) : (s.setPC bk pg st).ioRegs = s.ioRegs := rfl
@[simp] theorem State.setPC_ioTrace (bk : Bit) (pg : Nibble) (st : Byte) : (s.setPC bk pg st).ioTrace = s.ioTrace := rfl
@[simp] theorem State.setPC_dev (bk : Bit) (pg : Nibble) (st : Byte) : (s.setPC bk pg st).dev = s.dev := rfl
@[simp] theorem State.setPC_ramEpoch (bk : Bit) (pg : Nibble) (st : Byte) : (s.setPC bk pg st).ramEpoch = s.ramEpoch := rfl
@[simp] theorem State.setPC_draws (bk : Bit) (pg : Nibble) (st : Byte) : (s.setPC bk pg st).draws = s.draws := rfl
@[simp] theorem State.setPC_clocks (bk : Bit) (pg : Nibble) (st : Byte) : (s.setPC bk pg st).clocks = s.clocks := rfl

@[simp] theorem State.setNext_pcb (bk : Bit) (pg : Nibble) : (s.setNext bk pg).pcb = s.pcb := rfl
@[simp] theorem State.setNext_pcp (bk : Bit) (pg : Nibble) : (s.setNext bk pg).pcp = s.pcp := rfl
@[simp] theorem State.setNext_pcs (bk : Bit) (pg : Nibble) : (s.setNext bk pg).pcs = s.pcs := rfl
@[simp] theorem State.setNext_nbp (bk : Bit) (pg : Nibble) : (s.setNext bk pg).nbp = bk := rfl
@[simp] theorem State.setNext_npp (bk : Bit) (pg : Nibble) : (s.setNext bk pg).npp = pg := rfl
@[simp] theorem State.setNext_sp (bk : Bit) (pg : Nibble) : (s.setNext bk pg).sp = s.sp := rfl
@[simp] theorem State.setNext_xp (bk : Bit) (pg : Nibble) : (s.setNext bk pg).xp = s.xp := rfl
@[simp] theorem State.setNext_xh (bk : Bit) (pg : Nibble) : (s.setNext bk pg).xh = s.xh := rfl
@[simp] theorem State.setNext_xl (bk : Bit) (pg : Nibble) : (s.setNext bk pg).xl = s.xl := rfl
@[simp] theorem State.setNext_yp (bk : Bit) (pg : Nibble) : (s.setNext bk pg).yp = s.yp := rfl
@[simp] theorem State.setNext_yh (bk : Bit) (pg : Nibble) : (s.setNext bk pg).yh = s.yh := rfl
@[simp] theorem State.setNext_yl (bk : Bit) (pg : Nibble) : (s.setNext bk pg).yl = s.yl := rfl
@[simp] theorem State.setNext_rp (bk : Bit) (pg : Nibble) : (s.setNext bk pg).rp = s.rp := rfl
@[simp] theorem State.setNext_a (bk : Bit) (pg : Nibble) : (s.setNext bk pg).a = s.a := rfl
@[simp] theorem State.setNext_b (bk : Bit) (pg : Nibble) : (s.setNext bk pg).b = s.b := rfl
@[simp] theorem State.setNext_fi (bk : Bit) (pg : Nibble) : (s.setNext bk pg).fi = s.fi := rfl
@[simp] theorem State.setNext_fd (bk : Bit) (pg : Nibble) : (s.setNext bk pg).fd = s.fd := rfl
@[simp] theorem State.setNext_fz (bk : Bit) (pg : Nibble) : (s.setNext bk pg).fz = s.fz := rfl
@[simp] theorem State.setNext_fc (bk : Bit) (pg : Nibble) : (s.setNext bk pg).fc = s.fc := rfl
@[simp] theorem State.setNext_ram (bk : Bit) (pg : Nibble) : (s.setNext bk pg).ram = s.ram := rfl
@[simp] theorem State.setNext_run (bk : Bit) (pg : Nibble) : (s.setNext bk pg).run = s.run := rfl
@[simp] theorem State.setNext_afterPset (bk : Bit) (pg : Nibble) : (s.setNext bk pg).afterPset = s.afterPset := rfl
@[simp] theorem State.setNext_eiDelay (bk : Bit) (pg : Nibble) : (s.setNext bk pg).eiDelay = s.eiDelay := rfl
@[simp] theorem State.setNext_inputs (bk : Bit) (pg : Nibble) : (s.setNext bk pg).inputs = s.inputs := rfl
@[simp] theorem State.setNext_ioRegs (bk : Bit) (pg : Nibble) : (s.setNext bk pg).ioRegs = s.ioRegs := rfl
@[simp] theorem State.setNext_ioTrace (bk : Bit) (pg : Nibble) : (s.setNext bk pg).ioTrace = s.ioTrace := rfl
@[simp] theorem State.setNext_dev (bk : Bit) (pg : Nibble) : (s.setNext bk pg).dev = s.dev := rfl
@[simp] theorem State.setNext_ramEpoch (bk : Bit) (pg : Nibble) : (s.setNext bk pg).ramEpoch = s.ramEpoch := rfl
@[simp] theorem State.setNext_draws (bk : Bit) (pg : Nibble) : (s.setNext bk pg).draws = s.draws := rfl
@[simp] theorem State.setNext_clocks (bk : Bit) (pg : Nibble) : (s.setNext bk pg).clocks = s.clocks := rfl

@[simp] theorem State.setSP_pcb (v : Byte) : (s.setSP v).pcb = s.pcb := rfl
@[simp] theorem State.setSP_pcp (v : Byte) : (s.setSP v).pcp = s.pcp := rfl
@[simp] theorem State.setSP_pcs (v : Byte) : (s.setSP v).pcs = s.pcs := rfl
@[simp] theorem State.setSP_nbp (v : Byte) : (s.setSP v).nbp = s.nbp := rfl
@[simp] theorem State.setSP_npp (v : Byte) : (s.setSP v).npp = s.npp := rfl
@[simp] theorem State.setSP_sp (v : Byte) : (s.setSP v).sp = v := rfl
@[simp] theorem State.setSP_xp (v : Byte) : (s.setSP v).xp = s.xp := rfl
@[simp] theorem State.setSP_xh (v : Byte) : (s.setSP v).xh = s.xh := rfl
@[simp] theorem State.setSP_xl (v : Byte) : (s.setSP v).xl = s.xl := rfl
@[simp] theorem State.setSP_yp (v : Byte) : (s.setSP v).yp = s.yp := rfl
@[simp] theorem State.setSP_yh (v : Byte) : (s.setSP v).yh = s.yh := rfl
@[simp] theorem State.setSP_yl (v : Byte) : (s.setSP v).yl = s.yl := rfl
@[simp] theorem State.setSP_rp (v : Byte) : (s.setSP v).rp = s.rp := rfl
@[simp] theorem State.setSP_a (v : Byte) : (s.setSP v).a = s.a := rfl
@[simp] theorem State.setSP_b (v : Byte) : (s.setSP v).b = s.b := rfl
@[simp] theorem State.setSP_fi (v : Byte) : (s.setSP v).fi = s.fi := rfl
@[simp] theorem State.setSP_fd (v : Byte) : (s.setSP v).fd = s.fd := rfl
@[simp] theorem State.setSP_fz (v : Byte) : (s.setSP v).fz = s.fz := rfl
@[simp] theorem State.setSP_fc (v : Byte) : (s.setSP v).fc = s.fc := rfl
@[simp] theorem State.setSP_ram (v : Byte) : (s.setSP v).ram = s.ram := rfl
@[simp] theorem State.setSP_run (v : Byte) : (s.setSP v).run = s.run := rfl
@[simp] theorem State.setSP_afterPset (v : Byte) : (s.setSP v).afterPset = s.afterPset := rfl
@[simp] theorem State.setSP_eiDelay (v : Byte) : (s.setSP v).eiDelay = s.eiDelay := rfl
@[simp] theorem State.setSP_inputs (v : Byte) : (s.setSP v).inputs = s.inputs := rfl
@[simp] theorem State.setSP_ioRegs (v : Byte) : (s.setSP v).ioRegs = s.ioRegs := rfl
@[simp] theorem State.setSP_ioTrace (v : Byte) : (s.setSP v).ioTrace = s.ioTrace := rfl
@[simp] theorem State.setSP_dev (v : Byte) : (s.setSP v).dev = s.dev := rfl
@[simp] theorem State.setSP_ramEpoch (v : Byte) : (s.setSP v).ramEpoch = s.ramEpoch := rfl
@[simp] theorem State.setSP_draws (v : Byte) : (s.setSP v).draws = s.draws := rfl
@[simp] theorem State.setSP_clocks (v : Byte) : (s.setSP v).clocks = s.clocks := rfl

@[simp] theorem State.setXP_pcb (v : Nibble) : (s.setXP v).pcb = s.pcb := rfl
@[simp] theorem State.setXP_pcp (v : Nibble) : (s.setXP v).pcp = s.pcp := rfl
@[simp] theorem State.setXP_pcs (v : Nibble) : (s.setXP v).pcs = s.pcs := rfl
@[simp] theorem State.setXP_nbp (v : Nibble) : (s.setXP v).nbp = s.nbp := rfl
@[simp] theorem State.setXP_npp (v : Nibble) : (s.setXP v).npp = s.npp := rfl
@[simp] theorem State.setXP_sp (v : Nibble) : (s.setXP v).sp = s.sp := rfl
@[simp] theorem State.setXP_xp (v : Nibble) : (s.setXP v).xp = v := rfl
@[simp] theorem State.setXP_xh (v : Nibble) : (s.setXP v).xh = s.xh := rfl
@[simp] theorem State.setXP_xl (v : Nibble) : (s.setXP v).xl = s.xl := rfl
@[simp] theorem State.setXP_yp (v : Nibble) : (s.setXP v).yp = s.yp := rfl
@[simp] theorem State.setXP_yh (v : Nibble) : (s.setXP v).yh = s.yh := rfl
@[simp] theorem State.setXP_yl (v : Nibble) : (s.setXP v).yl = s.yl := rfl
@[simp] theorem State.setXP_rp (v : Nibble) : (s.setXP v).rp = s.rp := rfl
@[simp] theorem State.setXP_a (v : Nibble) : (s.setXP v).a = s.a := rfl
@[simp] theorem State.setXP_b (v : Nibble) : (s.setXP v).b = s.b := rfl
@[simp] theorem State.setXP_fi (v : Nibble) : (s.setXP v).fi = s.fi := rfl
@[simp] theorem State.setXP_fd (v : Nibble) : (s.setXP v).fd = s.fd := rfl
@[simp] theorem State.setXP_fz (v : Nibble) : (s.setXP v).fz = s.fz := rfl
@[simp] theorem State.setXP_fc (v : Nibble) : (s.setXP v).fc = s.fc := rfl
@[simp] theorem State.setXP_ram (v : Nibble) : (s.setXP v).ram = s.ram := rfl
@[simp] theorem State.setXP_run (v : Nibble) : (s.setXP v).run = s.run := rfl
@[simp] theorem State.setXP_afterPset (v : Nibble) : (s.setXP v).afterPset = s.afterPset := rfl
@[simp] theorem State.setXP_eiDelay (v : Nibble) : (s.setXP v).eiDelay = s.eiDelay := rfl
@[simp] theorem State.setXP_inputs (v : Nibble) : (s.setXP v).inputs = s.inputs := rfl
@[simp] theorem State.setXP_ioRegs (v : Nibble) : (s.setXP v).ioRegs = s.ioRegs := rfl
@[simp] theorem State.setXP_ioTrace (v : Nibble) : (s.setXP v).ioTrace = s.ioTrace := rfl
@[simp] theorem State.setXP_dev (v : Nibble) : (s.setXP v).dev = s.dev := rfl
@[simp] theorem State.setXP_ramEpoch (v : Nibble) : (s.setXP v).ramEpoch = s.ramEpoch := rfl
@[simp] theorem State.setXP_draws (v : Nibble) : (s.setXP v).draws = s.draws := rfl
@[simp] theorem State.setXP_clocks (v : Nibble) : (s.setXP v).clocks = s.clocks := rfl

@[simp] theorem State.setXH_pcb (v : Nibble) : (s.setXH v).pcb = s.pcb := rfl
@[simp] theorem State.setXH_pcp (v : Nibble) : (s.setXH v).pcp = s.pcp := rfl
@[simp] theorem State.setXH_pcs (v : Nibble) : (s.setXH v).pcs = s.pcs := rfl
@[simp] theorem State.setXH_nbp (v : Nibble) : (s.setXH v).nbp = s.nbp := rfl
@[simp] theorem State.setXH_npp (v : Nibble) : (s.setXH v).npp = s.npp := rfl
@[simp] theorem State.setXH_sp (v : Nibble) : (s.setXH v).sp = s.sp := rfl
@[simp] theorem State.setXH_xp (v : Nibble) : (s.setXH v).xp = s.xp := rfl
@[simp] theorem State.setXH_xh (v : Nibble) : (s.setXH v).xh = v := rfl
@[simp] theorem State.setXH_xl (v : Nibble) : (s.setXH v).xl = s.xl := rfl
@[simp] theorem State.setXH_yp (v : Nibble) : (s.setXH v).yp = s.yp := rfl
@[simp] theorem State.setXH_yh (v : Nibble) : (s.setXH v).yh = s.yh := rfl
@[simp] theorem State.setXH_yl (v : Nibble) : (s.setXH v).yl = s.yl := rfl
@[simp] theorem State.setXH_rp (v : Nibble) : (s.setXH v).rp = s.rp := rfl
@[simp] theorem State.setXH_a (v : Nibble) : (s.setXH v).a = s.a := rfl
@[simp] theorem State.setXH_b (v : Nibble) : (s.setXH v).b = s.b := rfl
@[simp] theorem State.setXH_fi (v : Nibble) : (s.setXH v).fi = s.fi := rfl
@[simp] theorem State.setXH_fd (v : Nibble) : (s.setXH v).fd = s.fd := rfl
@[simp] theorem State.setXH_fz (v : Nibble) : (s.setXH v).fz = s.fz := rfl
@[simp] theorem State.setXH_fc (v : Nibble) : (s.setXH v).fc = s.fc := rfl
@[simp] theorem State.setXH_ram (v : Nibble) : (s.setXH v).ram = s.ram := rfl
@[simp] theorem State.setXH_run (v : Nibble) : (s.setXH v).run = s.run := rfl
@[simp] theorem State.setXH_afterPset (v : Nibble) : (s.setXH v).afterPset = s.afterPset := rfl
@[simp] theorem State.setXH_eiDelay (v : Nibble) : (s.setXH v).eiDelay = s.eiDelay := rfl
@[simp] theorem State.setXH_inputs (v : Nibble) : (s.setXH v).inputs = s.inputs := rfl
@[simp] theorem State.setXH_ioRegs (v : Nibble) : (s.setXH v).ioRegs = s.ioRegs := rfl
@[simp] theorem State.setXH_ioTrace (v : Nibble) : (s.setXH v).ioTrace = s.ioTrace := rfl
@[simp] theorem State.setXH_dev (v : Nibble) : (s.setXH v).dev = s.dev := rfl
@[simp] theorem State.setXH_ramEpoch (v : Nibble) : (s.setXH v).ramEpoch = s.ramEpoch := rfl
@[simp] theorem State.setXH_draws (v : Nibble) : (s.setXH v).draws = s.draws := rfl
@[simp] theorem State.setXH_clocks (v : Nibble) : (s.setXH v).clocks = s.clocks := rfl

@[simp] theorem State.setXL_pcb (v : Nibble) : (s.setXL v).pcb = s.pcb := rfl
@[simp] theorem State.setXL_pcp (v : Nibble) : (s.setXL v).pcp = s.pcp := rfl
@[simp] theorem State.setXL_pcs (v : Nibble) : (s.setXL v).pcs = s.pcs := rfl
@[simp] theorem State.setXL_nbp (v : Nibble) : (s.setXL v).nbp = s.nbp := rfl
@[simp] theorem State.setXL_npp (v : Nibble) : (s.setXL v).npp = s.npp := rfl
@[simp] theorem State.setXL_sp (v : Nibble) : (s.setXL v).sp = s.sp := rfl
@[simp] theorem State.setXL_xp (v : Nibble) : (s.setXL v).xp = s.xp := rfl
@[simp] theorem State.setXL_xh (v : Nibble) : (s.setXL v).xh = s.xh := rfl
@[simp] theorem State.setXL_xl (v : Nibble) : (s.setXL v).xl = v := rfl
@[simp] theorem State.setXL_yp (v : Nibble) : (s.setXL v).yp = s.yp := rfl
@[simp] theorem State.setXL_yh (v : Nibble) : (s.setXL v).yh = s.yh := rfl
@[simp] theorem State.setXL_yl (v : Nibble) : (s.setXL v).yl = s.yl := rfl
@[simp] theorem State.setXL_rp (v : Nibble) : (s.setXL v).rp = s.rp := rfl
@[simp] theorem State.setXL_a (v : Nibble) : (s.setXL v).a = s.a := rfl
@[simp] theorem State.setXL_b (v : Nibble) : (s.setXL v).b = s.b := rfl
@[simp] theorem State.setXL_fi (v : Nibble) : (s.setXL v).fi = s.fi := rfl
@[simp] theorem State.setXL_fd (v : Nibble) : (s.setXL v).fd = s.fd := rfl
@[simp] theorem State.setXL_fz (v : Nibble) : (s.setXL v).fz = s.fz := rfl
@[simp] theorem State.setXL_fc (v : Nibble) : (s.setXL v).fc = s.fc := rfl
@[simp] theorem State.setXL_ram (v : Nibble) : (s.setXL v).ram = s.ram := rfl
@[simp] theorem State.setXL_run (v : Nibble) : (s.setXL v).run = s.run := rfl
@[simp] theorem State.setXL_afterPset (v : Nibble) : (s.setXL v).afterPset = s.afterPset := rfl
@[simp] theorem State.setXL_eiDelay (v : Nibble) : (s.setXL v).eiDelay = s.eiDelay := rfl
@[simp] theorem State.setXL_inputs (v : Nibble) : (s.setXL v).inputs = s.inputs := rfl
@[simp] theorem State.setXL_ioRegs (v : Nibble) : (s.setXL v).ioRegs = s.ioRegs := rfl
@[simp] theorem State.setXL_ioTrace (v : Nibble) : (s.setXL v).ioTrace = s.ioTrace := rfl
@[simp] theorem State.setXL_dev (v : Nibble) : (s.setXL v).dev = s.dev := rfl
@[simp] theorem State.setXL_ramEpoch (v : Nibble) : (s.setXL v).ramEpoch = s.ramEpoch := rfl
@[simp] theorem State.setXL_draws (v : Nibble) : (s.setXL v).draws = s.draws := rfl
@[simp] theorem State.setXL_clocks (v : Nibble) : (s.setXL v).clocks = s.clocks := rfl

@[simp] theorem State.setYP_pcb (v : Nibble) : (s.setYP v).pcb = s.pcb := rfl
@[simp] theorem State.setYP_pcp (v : Nibble) : (s.setYP v).pcp = s.pcp := rfl
@[simp] theorem State.setYP_pcs (v : Nibble) : (s.setYP v).pcs = s.pcs := rfl
@[simp] theorem State.setYP_nbp (v : Nibble) : (s.setYP v).nbp = s.nbp := rfl
@[simp] theorem State.setYP_npp (v : Nibble) : (s.setYP v).npp = s.npp := rfl
@[simp] theorem State.setYP_sp (v : Nibble) : (s.setYP v).sp = s.sp := rfl
@[simp] theorem State.setYP_xp (v : Nibble) : (s.setYP v).xp = s.xp := rfl
@[simp] theorem State.setYP_xh (v : Nibble) : (s.setYP v).xh = s.xh := rfl
@[simp] theorem State.setYP_xl (v : Nibble) : (s.setYP v).xl = s.xl := rfl
@[simp] theorem State.setYP_yp (v : Nibble) : (s.setYP v).yp = v := rfl
@[simp] theorem State.setYP_yh (v : Nibble) : (s.setYP v).yh = s.yh := rfl
@[simp] theorem State.setYP_yl (v : Nibble) : (s.setYP v).yl = s.yl := rfl
@[simp] theorem State.setYP_rp (v : Nibble) : (s.setYP v).rp = s.rp := rfl
@[simp] theorem State.setYP_a (v : Nibble) : (s.setYP v).a = s.a := rfl
@[simp] theorem State.setYP_b (v : Nibble) : (s.setYP v).b = s.b := rfl
@[simp] theorem State.setYP_fi (v : Nibble) : (s.setYP v).fi = s.fi := rfl
@[simp] theorem State.setYP_fd (v : Nibble) : (s.setYP v).fd = s.fd := rfl
@[simp] theorem State.setYP_fz (v : Nibble) : (s.setYP v).fz = s.fz := rfl
@[simp] theorem State.setYP_fc (v : Nibble) : (s.setYP v).fc = s.fc := rfl
@[simp] theorem State.setYP_ram (v : Nibble) : (s.setYP v).ram = s.ram := rfl
@[simp] theorem State.setYP_run (v : Nibble) : (s.setYP v).run = s.run := rfl
@[simp] theorem State.setYP_afterPset (v : Nibble) : (s.setYP v).afterPset = s.afterPset := rfl
@[simp] theorem State.setYP_eiDelay (v : Nibble) : (s.setYP v).eiDelay = s.eiDelay := rfl
@[simp] theorem State.setYP_inputs (v : Nibble) : (s.setYP v).inputs = s.inputs := rfl
@[simp] theorem State.setYP_ioRegs (v : Nibble) : (s.setYP v).ioRegs = s.ioRegs := rfl
@[simp] theorem State.setYP_ioTrace (v : Nibble) : (s.setYP v).ioTrace = s.ioTrace := rfl
@[simp] theorem State.setYP_dev (v : Nibble) : (s.setYP v).dev = s.dev := rfl
@[simp] theorem State.setYP_ramEpoch (v : Nibble) : (s.setYP v).ramEpoch = s.ramEpoch := rfl
@[simp] theorem State.setYP_draws (v : Nibble) : (s.setYP v).draws = s.draws := rfl
@[simp] theorem State.setYP_clocks (v : Nibble) : (s.setYP v).clocks = s.clocks := rfl

@[simp] theorem State.setYH_pcb (v : Nibble) : (s.setYH v).pcb = s.pcb := rfl
@[simp] theorem State.setYH_pcp (v : Nibble) : (s.setYH v).pcp = s.pcp := rfl
@[simp] theorem State.setYH_pcs (v : Nibble) : (s.setYH v).pcs = s.pcs := rfl
@[simp] theorem State.setYH_nbp (v : Nibble) : (s.setYH v).nbp = s.nbp := rfl
@[simp] theorem State.setYH_npp (v : Nibble) : (s.setYH v).npp = s.npp := rfl
@[simp] theorem State.setYH_sp (v : Nibble) : (s.setYH v).sp = s.sp := rfl
@[simp] theorem State.setYH_xp (v : Nibble) : (s.setYH v).xp = s.xp := rfl
@[simp] theorem State.setYH_xh (v : Nibble) : (s.setYH v).xh = s.xh := rfl
@[simp] theorem State.setYH_xl (v : Nibble) : (s.setYH v).xl = s.xl := rfl
@[simp] theorem State.setYH_yp (v : Nibble) : (s.setYH v).yp = s.yp := rfl
@[simp] theorem State.setYH_yh (v : Nibble) : (s.setYH v).yh = v := rfl
@[simp] theorem State.setYH_yl (v : Nibble) : (s.setYH v).yl = s.yl := rfl
@[simp] theorem State.setYH_rp (v : Nibble) : (s.setYH v).rp = s.rp := rfl
@[simp] theorem State.setYH_a (v : Nibble) : (s.setYH v).a = s.a := rfl
@[simp] theorem State.setYH_b (v : Nibble) : (s.setYH v).b = s.b := rfl
@[simp] theorem State.setYH_fi (v : Nibble) : (s.setYH v).fi = s.fi := rfl
@[simp] theorem State.setYH_fd (v : Nibble) : (s.setYH v).fd = s.fd := rfl
@[simp] theorem State.setYH_fz (v : Nibble) : (s.setYH v).fz = s.fz := rfl
@[simp] theorem State.setYH_fc (v : Nibble) : (s.setYH v).fc = s.fc := rfl
@[simp] theorem State.setYH_ram (v : Nibble) : (s.setYH v).ram = s.ram := rfl
@[simp] theorem State.setYH_run (v : Nibble) : (s.setYH v).run = s.run := rfl
@[simp] theorem State.setYH_afterPset (v : Nibble) : (s.setYH v).afterPset = s.afterPset := rfl
@[simp] theorem State.setYH_eiDelay (v : Nibble) : (s.setYH v).eiDelay = s.eiDelay := rfl
@[simp] theorem State.setYH_inputs (v : Nibble) : (s.setYH v).inputs = s.inputs := rfl
@[simp] theorem State.setYH_ioRegs (v : Nibble) : (s.setYH v).ioRegs = s.ioRegs := rfl
@[simp] theorem State.setYH_ioTrace (v : Nibble) : (s.setYH v).ioTrace = s.ioTrace := rfl
@[simp] theorem State.setYH_dev (v : Nibble) : (s.setYH v).dev = s.dev := rfl
@[simp] theorem State.setYH_ramEpoch (v : Nibble) : (s.setYH v).ramEpoch = s.ramEpoch := rfl
@[simp] theorem State.setYH_draws (v : Nibble) : (s.setYH v).draws = s.draws := rfl
@[simp] theorem State.setYH_clocks (v : Nibble) : (s.setYH v).clocks = s.clocks := rfl

@[simp] theorem State.setYL_pcb (v : Nibble) : (s.setYL v).pcb = s.pcb := rfl
@[simp] theorem State.setYL_pcp (v : Nibble) : (s.setYL v).pcp = s.pcp := rfl
@[simp] theorem State.setYL_pcs (v : Nibble) : (s.setYL v).pcs = s.pcs := rfl
@[simp] theorem State.setYL_nbp (v : Nibble) : (s.setYL v).nbp = s.nbp := rfl
@[simp] theorem State.setYL_npp (v : Nibble) : (s.setYL v).npp = s.npp := rfl
@[simp] theorem State.setYL_sp (v : Nibble) : (s.setYL v).sp = s.sp := rfl
@[simp] theorem State.setYL_xp (v : Nibble) : (s.setYL v).xp = s.xp := rfl
@[simp] theorem State.setYL_xh (v : Nibble) : (s.setYL v).xh = s.xh := rfl
@[simp] theorem State.setYL_xl (v : Nibble) : (s.setYL v).xl = s.xl := rfl
@[simp] theorem State.setYL_yp (v : Nibble) : (s.setYL v).yp = s.yp := rfl
@[simp] theorem State.setYL_yh (v : Nibble) : (s.setYL v).yh = s.yh := rfl
@[simp] theorem State.setYL_yl (v : Nibble) : (s.setYL v).yl = v := rfl
@[simp] theorem State.setYL_rp (v : Nibble) : (s.setYL v).rp = s.rp := rfl
@[simp] theorem State.setYL_a (v : Nibble) : (s.setYL v).a = s.a := rfl
@[simp] theorem State.setYL_b (v : Nibble) : (s.setYL v).b = s.b := rfl
@[simp] theorem State.setYL_fi (v : Nibble) : (s.setYL v).fi = s.fi := rfl
@[simp] theorem State.setYL_fd (v : Nibble) : (s.setYL v).fd = s.fd := rfl
@[simp] theorem State.setYL_fz (v : Nibble) : (s.setYL v).fz = s.fz := rfl
@[simp] theorem State.setYL_fc (v : Nibble) : (s.setYL v).fc = s.fc := rfl
@[simp] theorem State.setYL_ram (v : Nibble) : (s.setYL v).ram = s.ram := rfl
@[simp] theorem State.setYL_run (v : Nibble) : (s.setYL v).run = s.run := rfl
@[simp] theorem State.setYL_afterPset (v : Nibble) : (s.setYL v).afterPset = s.afterPset := rfl
@[simp] theorem State.setYL_eiDelay (v : Nibble) : (s.setYL v).eiDelay = s.eiDelay := rfl
@[simp] theorem State.setYL_inputs (v : Nibble) : (s.setYL v).inputs = s.inputs := rfl
@[simp] theorem State.setYL_ioRegs (v : Nibble) : (s.setYL v).ioRegs = s.ioRegs := rfl
@[simp] theorem State.setYL_ioTrace (v : Nibble) : (s.setYL v).ioTrace = s.ioTrace := rfl
@[simp] theorem State.setYL_dev (v : Nibble) : (s.setYL v).dev = s.dev := rfl
@[simp] theorem State.setYL_ramEpoch (v : Nibble) : (s.setYL v).ramEpoch = s.ramEpoch := rfl
@[simp] theorem State.setYL_draws (v : Nibble) : (s.setYL v).draws = s.draws := rfl
@[simp] theorem State.setYL_clocks (v : Nibble) : (s.setYL v).clocks = s.clocks := rfl

@[simp] theorem State.setRP_pcb (v : Nibble) : (s.setRP v).pcb = s.pcb := rfl
@[simp] theorem State.setRP_pcp (v : Nibble) : (s.setRP v).pcp = s.pcp := rfl
@[simp] theorem State.setRP_pcs (v : Nibble) : (s.setRP v).pcs = s.pcs := rfl
@[simp] theorem State.setRP_nbp (v : Nibble) : (s.setRP v).nbp = s.nbp := rfl
@[simp] theorem State.setRP_npp (v : Nibble) : (s.setRP v).npp = s.npp := rfl
@[simp] theorem State.setRP_sp (v : Nibble) : (s.setRP v).sp = s.sp := rfl
@[simp] theorem State.setRP_xp (v : Nibble) : (s.setRP v).xp = s.xp := rfl
@[simp] theorem State.setRP_xh (v : Nibble) : (s.setRP v).xh = s.xh := rfl
@[simp] theorem State.setRP_xl (v : Nibble) : (s.setRP v).xl = s.xl := rfl
@[simp] theorem State.setRP_yp (v : Nibble) : (s.setRP v).yp = s.yp := rfl
@[simp] theorem State.setRP_yh (v : Nibble) : (s.setRP v).yh = s.yh := rfl
@[simp] theorem State.setRP_yl (v : Nibble) : (s.setRP v).yl = s.yl := rfl
@[simp] theorem State.setRP_rp (v : Nibble) : (s.setRP v).rp = v := rfl
@[simp] theorem State.setRP_a (v : Nibble) : (s.setRP v).a = s.a := rfl
@[simp] theorem State.setRP_b (v : Nibble) : (s.setRP v).b = s.b := rfl
@[simp] theorem State.setRP_fi (v : Nibble) : (s.setRP v).fi = s.fi := rfl
@[simp] theorem State.setRP_fd (v : Nibble) : (s.setRP v).fd = s.fd := rfl
@[simp] theorem State.setRP_fz (v : Nibble) : (s.setRP v).fz = s.fz := rfl
@[simp] theorem State.setRP_fc (v : Nibble) : (s.setRP v).fc = s.fc := rfl
@[simp] theorem State.setRP_ram (v : Nibble) : (s.setRP v).ram = s.ram := rfl
@[simp] theorem State.setRP_run (v : Nibble) : (s.setRP v).run = s.run := rfl
@[simp] theorem State.setRP_afterPset (v : Nibble) : (s.setRP v).afterPset = s.afterPset := rfl
@[simp] theorem State.setRP_eiDelay (v : Nibble) : (s.setRP v).eiDelay = s.eiDelay := rfl
@[simp] theorem State.setRP_inputs (v : Nibble) : (s.setRP v).inputs = s.inputs := rfl
@[simp] theorem State.setRP_ioRegs (v : Nibble) : (s.setRP v).ioRegs = s.ioRegs := rfl
@[simp] theorem State.setRP_ioTrace (v : Nibble) : (s.setRP v).ioTrace = s.ioTrace := rfl
@[simp] theorem State.setRP_dev (v : Nibble) : (s.setRP v).dev = s.dev := rfl
@[simp] theorem State.setRP_ramEpoch (v : Nibble) : (s.setRP v).ramEpoch = s.ramEpoch := rfl
@[simp] theorem State.setRP_draws (v : Nibble) : (s.setRP v).draws = s.draws := rfl
@[simp] theorem State.setRP_clocks (v : Nibble) : (s.setRP v).clocks = s.clocks := rfl

@[simp] theorem State.setA_pcb (v : Nibble) : (s.setA v).pcb = s.pcb := rfl
@[simp] theorem State.setA_pcp (v : Nibble) : (s.setA v).pcp = s.pcp := rfl
@[simp] theorem State.setA_pcs (v : Nibble) : (s.setA v).pcs = s.pcs := rfl
@[simp] theorem State.setA_nbp (v : Nibble) : (s.setA v).nbp = s.nbp := rfl
@[simp] theorem State.setA_npp (v : Nibble) : (s.setA v).npp = s.npp := rfl
@[simp] theorem State.setA_sp (v : Nibble) : (s.setA v).sp = s.sp := rfl
@[simp] theorem State.setA_xp (v : Nibble) : (s.setA v).xp = s.xp := rfl
@[simp] theorem State.setA_xh (v : Nibble) : (s.setA v).xh = s.xh := rfl
@[simp] theorem State.setA_xl (v : Nibble) : (s.setA v).xl = s.xl := rfl
@[simp] theorem State.setA_yp (v : Nibble) : (s.setA v).yp = s.yp := rfl
@[simp] theorem State.setA_yh (v : Nibble) : (s.setA v).yh = s.yh := rfl
@[simp] theorem State.setA_yl (v : Nibble) : (s.setA v).yl = s.yl := rfl
@[simp] theorem State.setA_rp (v : Nibble) : (s.setA v).rp = s.rp := rfl
@[simp] theorem State.setA_a (v : Nibble) : (s.setA v).a = v := rfl
@[simp] theorem State.setA_b (v : Nibble) : (s.setA v).b = s.b := rfl
@[simp] theorem State.setA_fi (v : Nibble) : (s.setA v).fi = s.fi := rfl
@[simp] theorem State.setA_fd (v : Nibble) : (s.setA v).fd = s.fd := rfl
@[simp] theorem State.setA_fz (v : Nibble) : (s.setA v).fz = s.fz := rfl
@[simp] theorem State.setA_fc (v : Nibble) : (s.setA v).fc = s.fc := rfl
@[simp] theorem State.setA_ram (v : Nibble) : (s.setA v).ram = s.ram := rfl
@[simp] theorem State.setA_run (v : Nibble) : (s.setA v).run = s.run := rfl
@[simp] theorem State.setA_afterPset (v : Nibble) : (s.setA v).afterPset = s.afterPset := rfl
@[simp] theorem State.setA_eiDelay (v : Nibble) : (s.setA v).eiDelay = s.eiDelay := rfl
@[simp] theorem State.setA_inputs (v : Nibble) : (s.setA v).inputs = s.inputs := rfl
@[simp] theorem State.setA_ioRegs (v : Nibble) : (s.setA v).ioRegs = s.ioRegs := rfl
@[simp] theorem State.setA_ioTrace (v : Nibble) : (s.setA v).ioTrace = s.ioTrace := rfl
@[simp] theorem State.setA_dev (v : Nibble) : (s.setA v).dev = s.dev := rfl
@[simp] theorem State.setA_ramEpoch (v : Nibble) : (s.setA v).ramEpoch = s.ramEpoch := rfl
@[simp] theorem State.setA_draws (v : Nibble) : (s.setA v).draws = s.draws := rfl
@[simp] theorem State.setA_clocks (v : Nibble) : (s.setA v).clocks = s.clocks := rfl

@[simp] theorem State.setB_pcb (v : Nibble) : (s.setB v).pcb = s.pcb := rfl
@[simp] theorem State.setB_pcp (v : Nibble) : (s.setB v).pcp = s.pcp := rfl
@[simp] theorem State.setB_pcs (v : Nibble) : (s.setB v).pcs = s.pcs := rfl
@[simp] theorem State.setB_nbp (v : Nibble) : (s.setB v).nbp = s.nbp := rfl
@[simp] theorem State.setB_npp (v : Nibble) : (s.setB v).npp = s.npp := rfl
@[simp] theorem State.setB_sp (v : Nibble) : (s.setB v).sp = s.sp := rfl
@[simp] theorem State.setB_xp (v : Nibble) : (s.setB v).xp = s.xp := rfl
@[simp] theorem State.setB_xh (v : Nibble) : (s.setB v).xh = s.xh := rfl
@[simp] theorem State.setB_xl (v : Nibble) : (s.setB v).xl = s.xl := rfl
@[simp] theorem State.setB_yp (v : Nibble) : (s.setB v).yp = s.yp := rfl
@[simp] theorem State.setB_yh (v : Nibble) : (s.setB v).yh = s.yh := rfl
@[simp] theorem State.setB_yl (v : Nibble) : (s.setB v).yl = s.yl := rfl
@[simp] theorem State.setB_rp (v : Nibble) : (s.setB v).rp = s.rp := rfl
@[simp] theorem State.setB_a (v : Nibble) : (s.setB v).a = s.a := rfl
@[simp] theorem State.setB_b (v : Nibble) : (s.setB v).b = v := rfl
@[simp] theorem State.setB_fi (v : Nibble) : (s.setB v).fi = s.fi := rfl
@[simp] theorem State.setB_fd (v : Nibble) : (s.setB v).fd = s.fd := rfl
@[simp] theorem State.setB_fz (v : Nibble) : (s.setB v).fz = s.fz := rfl
@[simp] theorem State.setB_fc (v : Nibble) : (s.setB v).fc = s.fc := rfl
@[simp] theorem State.setB_ram (v : Nibble) : (s.setB v).ram = s.ram := rfl
@[simp] theorem State.setB_run (v : Nibble) : (s.setB v).run = s.run := rfl
@[simp] theorem State.setB_afterPset (v : Nibble) : (s.setB v).afterPset = s.afterPset := rfl
@[simp] theorem State.setB_eiDelay (v : Nibble) : (s.setB v).eiDelay = s.eiDelay := rfl
@[simp] theorem State.setB_inputs (v : Nibble) : (s.setB v).inputs = s.inputs := rfl
@[simp] theorem State.setB_ioRegs (v : Nibble) : (s.setB v).ioRegs = s.ioRegs := rfl
@[simp] theorem State.setB_ioTrace (v : Nibble) : (s.setB v).ioTrace = s.ioTrace := rfl
@[simp] theorem State.setB_dev (v : Nibble) : (s.setB v).dev = s.dev := rfl
@[simp] theorem State.setB_ramEpoch (v : Nibble) : (s.setB v).ramEpoch = s.ramEpoch := rfl
@[simp] theorem State.setB_draws (v : Nibble) : (s.setB v).draws = s.draws := rfl
@[simp] theorem State.setB_clocks (v : Nibble) : (s.setB v).clocks = s.clocks := rfl

@[simp] theorem State.setI_pcb (v : Bool) : (s.setI v).pcb = s.pcb := rfl
@[simp] theorem State.setI_pcp (v : Bool) : (s.setI v).pcp = s.pcp := rfl
@[simp] theorem State.setI_pcs (v : Bool) : (s.setI v).pcs = s.pcs := rfl
@[simp] theorem State.setI_nbp (v : Bool) : (s.setI v).nbp = s.nbp := rfl
@[simp] theorem State.setI_npp (v : Bool) : (s.setI v).npp = s.npp := rfl
@[simp] theorem State.setI_sp (v : Bool) : (s.setI v).sp = s.sp := rfl
@[simp] theorem State.setI_xp (v : Bool) : (s.setI v).xp = s.xp := rfl
@[simp] theorem State.setI_xh (v : Bool) : (s.setI v).xh = s.xh := rfl
@[simp] theorem State.setI_xl (v : Bool) : (s.setI v).xl = s.xl := rfl
@[simp] theorem State.setI_yp (v : Bool) : (s.setI v).yp = s.yp := rfl
@[simp] theorem State.setI_yh (v : Bool) : (s.setI v).yh = s.yh := rfl
@[simp] theorem State.setI_yl (v : Bool) : (s.setI v).yl = s.yl := rfl
@[simp] theorem State.setI_rp (v : Bool) : (s.setI v).rp = s.rp := rfl
@[simp] theorem State.setI_a (v : Bool) : (s.setI v).a = s.a := rfl
@[simp] theorem State.setI_b (v : Bool) : (s.setI v).b = s.b := rfl
@[simp] theorem State.setI_fi (v : Bool) : (s.setI v).fi = v := rfl
@[simp] theorem State.setI_fd (v : Bool) : (s.setI v).fd = s.fd := rfl
@[simp] theorem State.setI_fz (v : Bool) : (s.setI v).fz = s.fz := rfl
@[simp] theorem State.setI_fc (v : Bool) : (s.setI v).fc = s.fc := rfl
@[simp] theorem State.setI_ram (v : Bool) : (s.setI v).ram = s.ram := rfl
@[simp] theorem State.setI_run (v : Bool) : (s.setI v).run = s.run := rfl
@[simp] theorem State.setI_afterPset (v : Bool) : (s.setI v).afterPset = s.afterPset := rfl
@[simp] theorem State.setI_eiDelay (v : Bool) : (s.setI v).eiDelay = s.eiDelay := rfl
@[simp] theorem State.setI_inputs (v : Bool) : (s.setI v).inputs = s.inputs := rfl
@[simp] theorem State.setI_ioRegs (v : Bool) : (s.setI v).ioRegs = s.ioRegs := rfl
@[simp] theorem State.setI_ioTrace (v : Bool) : (s.setI v).ioTrace = s.ioTrace := rfl
@[simp] theorem State.setI_dev (v : Bool) : (s.setI v).dev = s.dev := rfl
@[simp] theorem State.setI_ramEpoch (v : Bool) : (s.setI v).ramEpoch = s.ramEpoch := rfl
@[simp] theorem State.setI_draws (v : Bool) : (s.setI v).draws = s.draws := rfl
@[simp] theorem State.setI_clocks (v : Bool) : (s.setI v).clocks = s.clocks := rfl

@[simp] theorem State.setD_pcb (v : Bool) : (s.setD v).pcb = s.pcb := rfl
@[simp] theorem State.setD_pcp (v : Bool) : (s.setD v).pcp = s.pcp := rfl
@[simp] theorem State.setD_pcs (v : Bool) : (s.setD v).pcs = s.pcs := rfl
@[simp] theorem State.setD_nbp (v : Bool) : (s.setD v).nbp = s.nbp := rfl
@[simp] theorem State.setD_npp (v : Bool) : (s.setD v).npp = s.npp := rfl
@[simp] theorem State.setD_sp (v : Bool) : (s.setD v).sp = s.sp := rfl
@[simp] theorem State.setD_xp (v : Bool) : (s.setD v).xp = s.xp := rfl
@[simp] theorem State.setD_xh (v : Bool) : (s.setD v).xh = s.xh := rfl
@[simp] theorem State.setD_xl (v : Bool) : (s.setD v).xl = s.xl := rfl
@[simp] theorem State.setD_yp (v : Bool) : (s.setD v).yp = s.yp := rfl
@[simp] theorem State.setD_yh (v : Bool) : (s.setD v).yh = s.yh := rfl
@[simp] theorem State.setD_yl (v : Bool) : (s.setD v).yl = s.yl := rfl
@[simp] theorem State.setD_rp (v : Bool) : (s.setD v).rp = s.rp := rfl
@[simp] theorem State.setD_a (v : Bool) : (s.setD v).a = s.a := rfl
@[simp] theorem State.setD_b (v : Bool) : (s.setD v).b = s.b := rfl
@[simp] theorem State.setD_fi (v : Bool) : (s.setD v).fi = s.fi := rfl
@[simp] theorem State.setD_fd (v : Bool) : (s.setD v).fd = v := rfl
@[simp] theorem State.setD_fz (v : Bool) : (s.setD v).fz = s.fz := rfl
@[simp] theorem State.setD_fc (v : Bool) : (s.setD v).fc = s.fc := rfl
@[simp] theorem State.setD_ram (v : Bool) : (s.setD v).ram = s.ram := rfl
@[simp] theorem State.setD_run (v : Bool) : (s.setD v).run = s.run := rfl
@[simp] theorem State.setD_afterPset (v : Bool) : (s.setD v).afterPset = s.afterPset := rfl
@[simp] theorem State.setD_eiDelay (v : Bool) : (s.setD v).eiDelay = s.eiDelay := rfl
@[simp] theorem State.setD_inputs (v : Bool) : (s.setD v).inputs = s.inputs := rfl
@[simp] theorem State.setD_ioRegs (v : Bool) : (s.setD v).ioRegs = s.ioRegs := rfl
@[simp] theorem State.setD_ioTrace (v : Bool) : (s.setD v).ioTrace = s.ioTrace := rfl
@[simp] theorem State.setD_dev (v : Bool) : (s.setD v).dev = s.dev := rfl
@[simp] theorem State.setD_ramEpoch (v : Bool) : (s.setD v).ramEpoch = s.ramEpoch := rfl
@[simp] theorem State.setD_draws (v : Bool) : (s.setD v).draws = s.draws := rfl
@[simp] theorem State.setD_clocks (v : Bool) : (s.setD v).clocks = s.clocks := rfl

@[simp] theorem State.setZ_pcb (v : Bool) : (s.setZ v).pcb = s.pcb := rfl
@[simp] theorem State.setZ_pcp (v : Bool) : (s.setZ v).pcp = s.pcp := rfl
@[simp] theorem State.setZ_pcs (v : Bool) : (s.setZ v).pcs = s.pcs := rfl
@[simp] theorem State.setZ_nbp (v : Bool) : (s.setZ v).nbp = s.nbp := rfl
@[simp] theorem State.setZ_npp (v : Bool) : (s.setZ v).npp = s.npp := rfl
@[simp] theorem State.setZ_sp (v : Bool) : (s.setZ v).sp = s.sp := rfl
@[simp] theorem State.setZ_xp (v : Bool) : (s.setZ v).xp = s.xp := rfl
@[simp] theorem State.setZ_xh (v : Bool) : (s.setZ v).xh = s.xh := rfl
@[simp] theorem State.setZ_xl (v : Bool) : (s.setZ v).xl = s.xl := rfl
@[simp] theorem State.setZ_yp (v : Bool) : (s.setZ v).yp = s.yp := rfl
@[simp] theorem State.setZ_yh (v : Bool) : (s.setZ v).yh = s.yh := rfl
@[simp] theorem State.setZ_yl (v : Bool) : (s.setZ v).yl = s.yl := rfl
@[simp] theorem State.setZ_rp (v : Bool) : (s.setZ v).rp = s.rp := rfl
@[simp] theorem State.setZ_a (v : Bool) : (s.setZ v).a = s.a := rfl
@[simp] theorem State.setZ_b (v : Bool) : (s.setZ v).b = s.b := rfl
@[simp] theorem State.setZ_fi (v : Bool) : (s.setZ v).fi = s.fi := rfl
@[simp] theorem State.setZ_fd (v : Bool) : (s.setZ v).fd = s.fd := rfl
@[simp] theorem State.setZ_fz (v : Bool) : (s.setZ v).fz = v := rfl
@[simp] theorem State.setZ_fc (v : Bool) : (s.setZ v).fc = s.fc := rfl
@[simp] theorem State.setZ_ram (v : Bool) : (s.setZ v).ram = s.ram := rfl
@[simp] theorem State.setZ_run (v : Bool) : (s.setZ v).run = s.run := rfl
@[simp] theorem State.setZ_afterPset (v : Bool) : (s.setZ v).afterPset = s.afterPset := rfl
@[simp] theorem State.setZ_eiDelay (v : Bool) : (s.setZ v).eiDelay = s.eiDelay := rfl
@[simp] theorem State.setZ_inputs (v : Bool) : (s.setZ v).inputs = s.inputs := rfl
@[simp] theorem State.setZ_ioRegs (v : Bool) : (s.setZ v).ioRegs = s.ioRegs := rfl
@[simp] theorem State.setZ_ioTrace (v : Bool) : (s.setZ v).ioTrace = s.ioTrace := rfl
@[simp] theorem State.setZ_dev (v : Bool) : (s.setZ v).dev = s.dev := rfl
@[simp] theorem State.setZ_ramEpoch (v : Bool) : (s.setZ v).ramEpoch = s.ramEpoch := rfl
@[simp] theorem State.setZ_draws (v : Bool) : (s.setZ v).draws = s.draws := rfl
@[simp] theorem State.setZ_clocks (v : Bool) : (s.setZ v).clocks = s.clocks := rfl

@[simp] theorem State.setC_pcb (v : Bool) : (s.setC v).pcb = s.pcb := rfl
@[simp] theorem State.setC_pcp (v : Bool) : (s.setC v).pcp = s.pcp := rfl
@[simp] theorem State.setC_pcs (v : Bool) : (s.setC v).pcs = s.pcs := rfl
@[simp] theorem State.setC_nbp (v : Bool) : (s.setC v).nbp = s.nbp := rfl
@[simp] theorem State.setC_npp (v : Bool) : (s.setC v).npp = s.npp := rfl
@[simp] theorem State.setC_sp (v : Bool) : (s.setC v).sp = s.sp := rfl
@[simp] theorem State.setC_xp (v : Bool) : (s.setC v).xp = s.xp := rfl
@[simp] theorem State.setC_xh (v : Bool) : (s.setC v).xh = s.xh := rfl
@[simp] theorem State.setC_xl (v : Bool) : (s.setC v).xl = s.xl := rfl
@[simp] theorem State.setC_yp (v : Bool) : (s.setC v).yp = s.yp := rfl
@[simp] theorem State.setC_yh (v : Bool) : (s.setC v).yh = s.yh := rfl
@[simp] theorem State.setC_yl (v : Bool) : (s.setC v).yl = s.yl := rfl
@[simp] theorem State.setC_rp (v : Bool) : (s.setC v).rp = s.rp := rfl
@[simp] theorem State.setC_a (v : Bool) : (s.setC v).a = s.a := rfl
@[simp] theorem State.setC_b (v : Bool) : (s.setC v).b = s.b := rfl
@[simp] theorem State.setC_fi (v : Bool) : (s.setC v).fi = s.fi := rfl
@[simp] theorem State.setC_fd (v : Bool) : (s.setC v).fd = s.fd := rfl
@[simp] theorem State.setC_fz (v : Bool) : (s.setC v).fz = s.fz := rfl
@[simp] theorem State.setC_fc (v : Bool) : (s.setC v).fc = v := rfl
@[simp] theorem State.setC_ram (v : Bool) : (s.setC v).ram = s.ram := rfl
@[simp] theorem State.setC_run (v : Bool) : (s.setC v).run = s.run := rfl
@[simp] theorem State.setC_afterPset (v : Bool) : (s.setC v).afterPset = s.afterPset := rfl
@[simp] theorem State.setC_eiDelay (v : Bool) : (s.setC v).eiDelay = s.eiDelay := rfl
@[simp] theorem State.setC_inputs (v : Bool) : (s.setC v).inputs = s.inputs := rfl
@[simp] theorem State.setC_ioRegs (v : Bool) : (s.setC v).ioRegs = s.ioRegs := rfl
@[simp] theorem State.setC_ioTrace (v : Bool) : (s.setC v).ioTrace = s.ioTrace := rfl
@[simp] theorem State.setC_dev (v : Bool) : (s.setC v).dev = s.dev := rfl
@[simp] theorem State.setC_ramEpoch (v : Bool) : (s.setC v).ramEpoch = s.ramEpoch := rfl
@[simp] theorem State.setC_draws (v : Bool) : (s.setC v).draws = s.draws := rfl
@[simp] theorem State.setC_clocks (v : Bool) : (s.setC v).clocks = s.clocks := rfl

@[simp] theorem State.setRam_pcb (m : Memory) : (s.setRam m).pcb = s.pcb := rfl
@[simp] theorem State.setRam_pcp (m : Memory) : (s.setRam m).pcp = s.pcp := rfl
@[simp] theorem State.setRam_pcs (m : Memory) : (s.setRam m).pcs = s.pcs := rfl
@[simp] theorem State.setRam_nbp (m : Memory) : (s.setRam m).nbp = s.nbp := rfl
@[simp] theorem State.setRam_npp (m : Memory) : (s.setRam m).npp = s.npp := rfl
@[simp] theorem State.setRam_sp (m : Memory) : (s.setRam m).sp = s.sp := rfl
@[simp] theorem State.setRam_xp (m : Memory) : (s.setRam m).xp = s.xp := rfl
@[simp] theorem State.setRam_xh (m : Memory) : (s.setRam m).xh = s.xh := rfl
@[simp] theorem State.setRam_xl (m : Memory) : (s.setRam m).xl = s.xl := rfl
@[simp] theorem State.setRam_yp (m : Memory) : (s.setRam m).yp = s.yp := rfl
@[simp] theorem State.setRam_yh (m : Memory) : (s.setRam m).yh = s.yh := rfl
@[simp] theorem State.setRam_yl (m : Memory) : (s.setRam m).yl = s.yl := rfl
@[simp] theorem State.setRam_rp (m : Memory) : (s.setRam m).rp = s.rp := rfl
@[simp] theorem State.setRam_a (m : Memory) : (s.setRam m).a = s.a := rfl
@[simp] theorem State.setRam_b (m : Memory) : (s.setRam m).b = s.b := rfl
@[simp] theorem State.setRam_fi (m : Memory) : (s.setRam m).fi = s.fi := rfl
@[simp] theorem State.setRam_fd (m : Memory) : (s.setRam m).fd = s.fd := rfl
@[simp] theorem State.setRam_fz (m : Memory) : (s.setRam m).fz = s.fz := rfl
@[simp] theorem State.setRam_fc (m : Memory) : (s.setRam m).fc = s.fc := rfl
@[simp] theorem State.setRam_ram (m : Memory) : (s.setRam m).ram = m := rfl
@[simp] theorem State.setRam_run (m : Memory) : (s.setRam m).run = s.run := rfl
@[simp] theorem State.setRam_afterPset (m : Memory) : (s.setRam m).afterPset = s.afterPset := rfl
@[simp] theorem State.setRam_eiDelay (m : Memory) : (s.setRam m).eiDelay = s.eiDelay := rfl
@[simp] theorem State.setRam_inputs (m : Memory) : (s.setRam m).inputs = s.inputs := rfl
@[simp] theorem State.setRam_ioRegs (m : Memory) : (s.setRam m).ioRegs = s.ioRegs := rfl
@[simp] theorem State.setRam_ioTrace (m : Memory) : (s.setRam m).ioTrace = s.ioTrace := rfl
@[simp] theorem State.setRam_dev (m : Memory) : (s.setRam m).dev = s.dev := rfl
@[simp] theorem State.setRam_ramEpoch (m : Memory) : (s.setRam m).ramEpoch = s.ramEpoch := rfl
@[simp] theorem State.setRam_draws (m : Memory) : (s.setRam m).draws = s.draws := rfl
@[simp] theorem State.setRam_clocks (m : Memory) : (s.setRam m).clocks = s.clocks := rfl

@[simp] theorem State.setRun_pcb (v : RunState) : (s.setRun v).pcb = s.pcb := rfl
@[simp] theorem State.setRun_pcp (v : RunState) : (s.setRun v).pcp = s.pcp := rfl
@[simp] theorem State.setRun_pcs (v : RunState) : (s.setRun v).pcs = s.pcs := rfl
@[simp] theorem State.setRun_nbp (v : RunState) : (s.setRun v).nbp = s.nbp := rfl
@[simp] theorem State.setRun_npp (v : RunState) : (s.setRun v).npp = s.npp := rfl
@[simp] theorem State.setRun_sp (v : RunState) : (s.setRun v).sp = s.sp := rfl
@[simp] theorem State.setRun_xp (v : RunState) : (s.setRun v).xp = s.xp := rfl
@[simp] theorem State.setRun_xh (v : RunState) : (s.setRun v).xh = s.xh := rfl
@[simp] theorem State.setRun_xl (v : RunState) : (s.setRun v).xl = s.xl := rfl
@[simp] theorem State.setRun_yp (v : RunState) : (s.setRun v).yp = s.yp := rfl
@[simp] theorem State.setRun_yh (v : RunState) : (s.setRun v).yh = s.yh := rfl
@[simp] theorem State.setRun_yl (v : RunState) : (s.setRun v).yl = s.yl := rfl
@[simp] theorem State.setRun_rp (v : RunState) : (s.setRun v).rp = s.rp := rfl
@[simp] theorem State.setRun_a (v : RunState) : (s.setRun v).a = s.a := rfl
@[simp] theorem State.setRun_b (v : RunState) : (s.setRun v).b = s.b := rfl
@[simp] theorem State.setRun_fi (v : RunState) : (s.setRun v).fi = s.fi := rfl
@[simp] theorem State.setRun_fd (v : RunState) : (s.setRun v).fd = s.fd := rfl
@[simp] theorem State.setRun_fz (v : RunState) : (s.setRun v).fz = s.fz := rfl
@[simp] theorem State.setRun_fc (v : RunState) : (s.setRun v).fc = s.fc := rfl
@[simp] theorem State.setRun_ram (v : RunState) : (s.setRun v).ram = s.ram := rfl
@[simp] theorem State.setRun_run (v : RunState) : (s.setRun v).run = v := rfl
@[simp] theorem State.setRun_afterPset (v : RunState) : (s.setRun v).afterPset = s.afterPset := rfl
@[simp] theorem State.setRun_eiDelay (v : RunState) : (s.setRun v).eiDelay = s.eiDelay := rfl
@[simp] theorem State.setRun_inputs (v : RunState) : (s.setRun v).inputs = s.inputs := rfl
@[simp] theorem State.setRun_ioRegs (v : RunState) : (s.setRun v).ioRegs = s.ioRegs := rfl
@[simp] theorem State.setRun_ioTrace (v : RunState) : (s.setRun v).ioTrace = s.ioTrace := rfl
@[simp] theorem State.setRun_dev (v : RunState) : (s.setRun v).dev = s.dev := rfl
@[simp] theorem State.setRun_ramEpoch (v : RunState) : (s.setRun v).ramEpoch = s.ramEpoch := rfl
@[simp] theorem State.setRun_draws (v : RunState) : (s.setRun v).draws = s.draws := rfl
@[simp] theorem State.setRun_clocks (v : RunState) : (s.setRun v).clocks = s.clocks := rfl

@[simp] theorem State.setHidden_pcb (ap : Bool) (ei : Bool) : (s.setHidden ap ei).pcb = s.pcb := rfl
@[simp] theorem State.setHidden_pcp (ap : Bool) (ei : Bool) : (s.setHidden ap ei).pcp = s.pcp := rfl
@[simp] theorem State.setHidden_pcs (ap : Bool) (ei : Bool) : (s.setHidden ap ei).pcs = s.pcs := rfl
@[simp] theorem State.setHidden_nbp (ap : Bool) (ei : Bool) : (s.setHidden ap ei).nbp = s.nbp := rfl
@[simp] theorem State.setHidden_npp (ap : Bool) (ei : Bool) : (s.setHidden ap ei).npp = s.npp := rfl
@[simp] theorem State.setHidden_sp (ap : Bool) (ei : Bool) : (s.setHidden ap ei).sp = s.sp := rfl
@[simp] theorem State.setHidden_xp (ap : Bool) (ei : Bool) : (s.setHidden ap ei).xp = s.xp := rfl
@[simp] theorem State.setHidden_xh (ap : Bool) (ei : Bool) : (s.setHidden ap ei).xh = s.xh := rfl
@[simp] theorem State.setHidden_xl (ap : Bool) (ei : Bool) : (s.setHidden ap ei).xl = s.xl := rfl
@[simp] theorem State.setHidden_yp (ap : Bool) (ei : Bool) : (s.setHidden ap ei).yp = s.yp := rfl
@[simp] theorem State.setHidden_yh (ap : Bool) (ei : Bool) : (s.setHidden ap ei).yh = s.yh := rfl
@[simp] theorem State.setHidden_yl (ap : Bool) (ei : Bool) : (s.setHidden ap ei).yl = s.yl := rfl
@[simp] theorem State.setHidden_rp (ap : Bool) (ei : Bool) : (s.setHidden ap ei).rp = s.rp := rfl
@[simp] theorem State.setHidden_a (ap : Bool) (ei : Bool) : (s.setHidden ap ei).a = s.a := rfl
@[simp] theorem State.setHidden_b (ap : Bool) (ei : Bool) : (s.setHidden ap ei).b = s.b := rfl
@[simp] theorem State.setHidden_fi (ap : Bool) (ei : Bool) : (s.setHidden ap ei).fi = s.fi := rfl
@[simp] theorem State.setHidden_fd (ap : Bool) (ei : Bool) : (s.setHidden ap ei).fd = s.fd := rfl
@[simp] theorem State.setHidden_fz (ap : Bool) (ei : Bool) : (s.setHidden ap ei).fz = s.fz := rfl
@[simp] theorem State.setHidden_fc (ap : Bool) (ei : Bool) : (s.setHidden ap ei).fc = s.fc := rfl
@[simp] theorem State.setHidden_ram (ap : Bool) (ei : Bool) : (s.setHidden ap ei).ram = s.ram := rfl
@[simp] theorem State.setHidden_run (ap : Bool) (ei : Bool) : (s.setHidden ap ei).run = s.run := rfl
@[simp] theorem State.setHidden_afterPset (ap : Bool) (ei : Bool) : (s.setHidden ap ei).afterPset = ap := rfl
@[simp] theorem State.setHidden_eiDelay (ap : Bool) (ei : Bool) : (s.setHidden ap ei).eiDelay = ei := rfl
@[simp] theorem State.setHidden_inputs (ap : Bool) (ei : Bool) : (s.setHidden ap ei).inputs = s.inputs := rfl
@[simp] theorem State.setHidden_ioRegs (ap : Bool) (ei : Bool) : (s.setHidden ap ei).ioRegs = s.ioRegs := rfl
@[simp] theorem State.setHidden_ioTrace (ap : Bool) (ei : Bool) : (s.setHidden ap ei).ioTrace = s.ioTrace := rfl
@[simp] theorem State.setHidden_dev (ap : Bool) (ei : Bool) : (s.setHidden ap ei).dev = s.dev := rfl
@[simp] theorem State.setHidden_ramEpoch (ap : Bool) (ei : Bool) : (s.setHidden ap ei).ramEpoch = s.ramEpoch := rfl
@[simp] theorem State.setHidden_draws (ap : Bool) (ei : Bool) : (s.setHidden ap ei).draws = s.draws := rfl
@[simp] theorem State.setHidden_clocks (ap : Bool) (ei : Bool) : (s.setHidden ap ei).clocks = s.clocks := rfl

@[simp] theorem State.setInputs_pcb (l : List Input) : (s.setInputs l).pcb = s.pcb := rfl
@[simp] theorem State.setInputs_pcp (l : List Input) : (s.setInputs l).pcp = s.pcp := rfl
@[simp] theorem State.setInputs_pcs (l : List Input) : (s.setInputs l).pcs = s.pcs := rfl
@[simp] theorem State.setInputs_nbp (l : List Input) : (s.setInputs l).nbp = s.nbp := rfl
@[simp] theorem State.setInputs_npp (l : List Input) : (s.setInputs l).npp = s.npp := rfl
@[simp] theorem State.setInputs_sp (l : List Input) : (s.setInputs l).sp = s.sp := rfl
@[simp] theorem State.setInputs_xp (l : List Input) : (s.setInputs l).xp = s.xp := rfl
@[simp] theorem State.setInputs_xh (l : List Input) : (s.setInputs l).xh = s.xh := rfl
@[simp] theorem State.setInputs_xl (l : List Input) : (s.setInputs l).xl = s.xl := rfl
@[simp] theorem State.setInputs_yp (l : List Input) : (s.setInputs l).yp = s.yp := rfl
@[simp] theorem State.setInputs_yh (l : List Input) : (s.setInputs l).yh = s.yh := rfl
@[simp] theorem State.setInputs_yl (l : List Input) : (s.setInputs l).yl = s.yl := rfl
@[simp] theorem State.setInputs_rp (l : List Input) : (s.setInputs l).rp = s.rp := rfl
@[simp] theorem State.setInputs_a (l : List Input) : (s.setInputs l).a = s.a := rfl
@[simp] theorem State.setInputs_b (l : List Input) : (s.setInputs l).b = s.b := rfl
@[simp] theorem State.setInputs_fi (l : List Input) : (s.setInputs l).fi = s.fi := rfl
@[simp] theorem State.setInputs_fd (l : List Input) : (s.setInputs l).fd = s.fd := rfl
@[simp] theorem State.setInputs_fz (l : List Input) : (s.setInputs l).fz = s.fz := rfl
@[simp] theorem State.setInputs_fc (l : List Input) : (s.setInputs l).fc = s.fc := rfl
@[simp] theorem State.setInputs_ram (l : List Input) : (s.setInputs l).ram = s.ram := rfl
@[simp] theorem State.setInputs_run (l : List Input) : (s.setInputs l).run = s.run := rfl
@[simp] theorem State.setInputs_afterPset (l : List Input) : (s.setInputs l).afterPset = s.afterPset := rfl
@[simp] theorem State.setInputs_eiDelay (l : List Input) : (s.setInputs l).eiDelay = s.eiDelay := rfl
@[simp] theorem State.setInputs_inputs (l : List Input) : (s.setInputs l).inputs = l := rfl
@[simp] theorem State.setInputs_ioRegs (l : List Input) : (s.setInputs l).ioRegs = s.ioRegs := rfl
@[simp] theorem State.setInputs_ioTrace (l : List Input) : (s.setInputs l).ioTrace = s.ioTrace := rfl
@[simp] theorem State.setInputs_dev (l : List Input) : (s.setInputs l).dev = s.dev := rfl
@[simp] theorem State.setInputs_ramEpoch (l : List Input) : (s.setInputs l).ramEpoch = s.ramEpoch := rfl
@[simp] theorem State.setInputs_draws (l : List Input) : (s.setInputs l).draws = s.draws := rfl
@[simp] theorem State.setInputs_clocks (l : List Input) : (s.setInputs l).clocks = s.clocks := rfl

@[simp] theorem State.setIoRegs_pcb (m : Memory) : (s.setIoRegs m).pcb = s.pcb := rfl
@[simp] theorem State.setIoRegs_pcp (m : Memory) : (s.setIoRegs m).pcp = s.pcp := rfl
@[simp] theorem State.setIoRegs_pcs (m : Memory) : (s.setIoRegs m).pcs = s.pcs := rfl
@[simp] theorem State.setIoRegs_nbp (m : Memory) : (s.setIoRegs m).nbp = s.nbp := rfl
@[simp] theorem State.setIoRegs_npp (m : Memory) : (s.setIoRegs m).npp = s.npp := rfl
@[simp] theorem State.setIoRegs_sp (m : Memory) : (s.setIoRegs m).sp = s.sp := rfl
@[simp] theorem State.setIoRegs_xp (m : Memory) : (s.setIoRegs m).xp = s.xp := rfl
@[simp] theorem State.setIoRegs_xh (m : Memory) : (s.setIoRegs m).xh = s.xh := rfl
@[simp] theorem State.setIoRegs_xl (m : Memory) : (s.setIoRegs m).xl = s.xl := rfl
@[simp] theorem State.setIoRegs_yp (m : Memory) : (s.setIoRegs m).yp = s.yp := rfl
@[simp] theorem State.setIoRegs_yh (m : Memory) : (s.setIoRegs m).yh = s.yh := rfl
@[simp] theorem State.setIoRegs_yl (m : Memory) : (s.setIoRegs m).yl = s.yl := rfl
@[simp] theorem State.setIoRegs_rp (m : Memory) : (s.setIoRegs m).rp = s.rp := rfl
@[simp] theorem State.setIoRegs_a (m : Memory) : (s.setIoRegs m).a = s.a := rfl
@[simp] theorem State.setIoRegs_b (m : Memory) : (s.setIoRegs m).b = s.b := rfl
@[simp] theorem State.setIoRegs_fi (m : Memory) : (s.setIoRegs m).fi = s.fi := rfl
@[simp] theorem State.setIoRegs_fd (m : Memory) : (s.setIoRegs m).fd = s.fd := rfl
@[simp] theorem State.setIoRegs_fz (m : Memory) : (s.setIoRegs m).fz = s.fz := rfl
@[simp] theorem State.setIoRegs_fc (m : Memory) : (s.setIoRegs m).fc = s.fc := rfl
@[simp] theorem State.setIoRegs_ram (m : Memory) : (s.setIoRegs m).ram = s.ram := rfl
@[simp] theorem State.setIoRegs_run (m : Memory) : (s.setIoRegs m).run = s.run := rfl
@[simp] theorem State.setIoRegs_afterPset (m : Memory) : (s.setIoRegs m).afterPset = s.afterPset := rfl
@[simp] theorem State.setIoRegs_eiDelay (m : Memory) : (s.setIoRegs m).eiDelay = s.eiDelay := rfl
@[simp] theorem State.setIoRegs_inputs (m : Memory) : (s.setIoRegs m).inputs = s.inputs := rfl
@[simp] theorem State.setIoRegs_ioRegs (m : Memory) : (s.setIoRegs m).ioRegs = m := rfl
@[simp] theorem State.setIoRegs_ioTrace (m : Memory) : (s.setIoRegs m).ioTrace = s.ioTrace := rfl
@[simp] theorem State.setIoRegs_dev (m : Memory) : (s.setIoRegs m).dev = s.dev := rfl
@[simp] theorem State.setIoRegs_ramEpoch (m : Memory) : (s.setIoRegs m).ramEpoch = s.ramEpoch := rfl
@[simp] theorem State.setIoRegs_draws (m : Memory) : (s.setIoRegs m).draws = s.draws := rfl
@[simp] theorem State.setIoRegs_clocks (m : Memory) : (s.setIoRegs m).clocks = s.clocks := rfl

@[simp] theorem State.setIoTrace_pcb (l : List IoAccess) : (s.setIoTrace l).pcb = s.pcb := rfl
@[simp] theorem State.setIoTrace_pcp (l : List IoAccess) : (s.setIoTrace l).pcp = s.pcp := rfl
@[simp] theorem State.setIoTrace_pcs (l : List IoAccess) : (s.setIoTrace l).pcs = s.pcs := rfl
@[simp] theorem State.setIoTrace_nbp (l : List IoAccess) : (s.setIoTrace l).nbp = s.nbp := rfl
@[simp] theorem State.setIoTrace_npp (l : List IoAccess) : (s.setIoTrace l).npp = s.npp := rfl
@[simp] theorem State.setIoTrace_sp (l : List IoAccess) : (s.setIoTrace l).sp = s.sp := rfl
@[simp] theorem State.setIoTrace_xp (l : List IoAccess) : (s.setIoTrace l).xp = s.xp := rfl
@[simp] theorem State.setIoTrace_xh (l : List IoAccess) : (s.setIoTrace l).xh = s.xh := rfl
@[simp] theorem State.setIoTrace_xl (l : List IoAccess) : (s.setIoTrace l).xl = s.xl := rfl
@[simp] theorem State.setIoTrace_yp (l : List IoAccess) : (s.setIoTrace l).yp = s.yp := rfl
@[simp] theorem State.setIoTrace_yh (l : List IoAccess) : (s.setIoTrace l).yh = s.yh := rfl
@[simp] theorem State.setIoTrace_yl (l : List IoAccess) : (s.setIoTrace l).yl = s.yl := rfl
@[simp] theorem State.setIoTrace_rp (l : List IoAccess) : (s.setIoTrace l).rp = s.rp := rfl
@[simp] theorem State.setIoTrace_a (l : List IoAccess) : (s.setIoTrace l).a = s.a := rfl
@[simp] theorem State.setIoTrace_b (l : List IoAccess) : (s.setIoTrace l).b = s.b := rfl
@[simp] theorem State.setIoTrace_fi (l : List IoAccess) : (s.setIoTrace l).fi = s.fi := rfl
@[simp] theorem State.setIoTrace_fd (l : List IoAccess) : (s.setIoTrace l).fd = s.fd := rfl
@[simp] theorem State.setIoTrace_fz (l : List IoAccess) : (s.setIoTrace l).fz = s.fz := rfl
@[simp] theorem State.setIoTrace_fc (l : List IoAccess) : (s.setIoTrace l).fc = s.fc := rfl
@[simp] theorem State.setIoTrace_ram (l : List IoAccess) : (s.setIoTrace l).ram = s.ram := rfl
@[simp] theorem State.setIoTrace_run (l : List IoAccess) : (s.setIoTrace l).run = s.run := rfl
@[simp] theorem State.setIoTrace_afterPset (l : List IoAccess) : (s.setIoTrace l).afterPset = s.afterPset := rfl
@[simp] theorem State.setIoTrace_eiDelay (l : List IoAccess) : (s.setIoTrace l).eiDelay = s.eiDelay := rfl
@[simp] theorem State.setIoTrace_inputs (l : List IoAccess) : (s.setIoTrace l).inputs = s.inputs := rfl
@[simp] theorem State.setIoTrace_ioRegs (l : List IoAccess) : (s.setIoTrace l).ioRegs = s.ioRegs := rfl
@[simp] theorem State.setIoTrace_ioTrace (l : List IoAccess) : (s.setIoTrace l).ioTrace = l := rfl
@[simp] theorem State.setIoTrace_dev (l : List IoAccess) : (s.setIoTrace l).dev = s.dev := rfl
@[simp] theorem State.setIoTrace_ramEpoch (l : List IoAccess) : (s.setIoTrace l).ramEpoch = s.ramEpoch := rfl
@[simp] theorem State.setIoTrace_draws (l : List IoAccess) : (s.setIoTrace l).draws = s.draws := rfl
@[simp] theorem State.setIoTrace_clocks (l : List IoAccess) : (s.setIoTrace l).clocks = s.clocks := rfl

@[simp] theorem State.setDev_pcb (d : Device) : (s.setDev d).pcb = s.pcb := rfl
@[simp] theorem State.setDev_pcp (d : Device) : (s.setDev d).pcp = s.pcp := rfl
@[simp] theorem State.setDev_pcs (d : Device) : (s.setDev d).pcs = s.pcs := rfl
@[simp] theorem State.setDev_nbp (d : Device) : (s.setDev d).nbp = s.nbp := rfl
@[simp] theorem State.setDev_npp (d : Device) : (s.setDev d).npp = s.npp := rfl
@[simp] theorem State.setDev_sp (d : Device) : (s.setDev d).sp = s.sp := rfl
@[simp] theorem State.setDev_xp (d : Device) : (s.setDev d).xp = s.xp := rfl
@[simp] theorem State.setDev_xh (d : Device) : (s.setDev d).xh = s.xh := rfl
@[simp] theorem State.setDev_xl (d : Device) : (s.setDev d).xl = s.xl := rfl
@[simp] theorem State.setDev_yp (d : Device) : (s.setDev d).yp = s.yp := rfl
@[simp] theorem State.setDev_yh (d : Device) : (s.setDev d).yh = s.yh := rfl
@[simp] theorem State.setDev_yl (d : Device) : (s.setDev d).yl = s.yl := rfl
@[simp] theorem State.setDev_rp (d : Device) : (s.setDev d).rp = s.rp := rfl
@[simp] theorem State.setDev_a (d : Device) : (s.setDev d).a = s.a := rfl
@[simp] theorem State.setDev_b (d : Device) : (s.setDev d).b = s.b := rfl
@[simp] theorem State.setDev_fi (d : Device) : (s.setDev d).fi = s.fi := rfl
@[simp] theorem State.setDev_fd (d : Device) : (s.setDev d).fd = s.fd := rfl
@[simp] theorem State.setDev_fz (d : Device) : (s.setDev d).fz = s.fz := rfl
@[simp] theorem State.setDev_fc (d : Device) : (s.setDev d).fc = s.fc := rfl
@[simp] theorem State.setDev_ram (d : Device) : (s.setDev d).ram = s.ram := rfl
@[simp] theorem State.setDev_run (d : Device) : (s.setDev d).run = s.run := rfl
@[simp] theorem State.setDev_afterPset (d : Device) : (s.setDev d).afterPset = s.afterPset := rfl
@[simp] theorem State.setDev_eiDelay (d : Device) : (s.setDev d).eiDelay = s.eiDelay := rfl
@[simp] theorem State.setDev_inputs (d : Device) : (s.setDev d).inputs = s.inputs := rfl
@[simp] theorem State.setDev_ioRegs (d : Device) : (s.setDev d).ioRegs = s.ioRegs := rfl
@[simp] theorem State.setDev_ioTrace (d : Device) : (s.setDev d).ioTrace = s.ioTrace := rfl
@[simp] theorem State.setDev_dev (d : Device) : (s.setDev d).dev = d := rfl
@[simp] theorem State.setDev_ramEpoch (d : Device) : (s.setDev d).ramEpoch = s.ramEpoch := rfl
@[simp] theorem State.setDev_draws (d : Device) : (s.setDev d).draws = s.draws := rfl
@[simp] theorem State.setDev_clocks (d : Device) : (s.setDev d).clocks = s.clocks := rfl

@[simp] theorem State.setDraws_pcb (n : Nat) : (s.setDraws n).pcb = s.pcb := rfl
@[simp] theorem State.setDraws_pcp (n : Nat) : (s.setDraws n).pcp = s.pcp := rfl
@[simp] theorem State.setDraws_pcs (n : Nat) : (s.setDraws n).pcs = s.pcs := rfl
@[simp] theorem State.setDraws_nbp (n : Nat) : (s.setDraws n).nbp = s.nbp := rfl
@[simp] theorem State.setDraws_npp (n : Nat) : (s.setDraws n).npp = s.npp := rfl
@[simp] theorem State.setDraws_sp (n : Nat) : (s.setDraws n).sp = s.sp := rfl
@[simp] theorem State.setDraws_xp (n : Nat) : (s.setDraws n).xp = s.xp := rfl
@[simp] theorem State.setDraws_xh (n : Nat) : (s.setDraws n).xh = s.xh := rfl
@[simp] theorem State.setDraws_xl (n : Nat) : (s.setDraws n).xl = s.xl := rfl
@[simp] theorem State.setDraws_yp (n : Nat) : (s.setDraws n).yp = s.yp := rfl
@[simp] theorem State.setDraws_yh (n : Nat) : (s.setDraws n).yh = s.yh := rfl
@[simp] theorem State.setDraws_yl (n : Nat) : (s.setDraws n).yl = s.yl := rfl
@[simp] theorem State.setDraws_rp (n : Nat) : (s.setDraws n).rp = s.rp := rfl
@[simp] theorem State.setDraws_a (n : Nat) : (s.setDraws n).a = s.a := rfl
@[simp] theorem State.setDraws_b (n : Nat) : (s.setDraws n).b = s.b := rfl
@[simp] theorem State.setDraws_fi (n : Nat) : (s.setDraws n).fi = s.fi := rfl
@[simp] theorem State.setDraws_fd (n : Nat) : (s.setDraws n).fd = s.fd := rfl
@[simp] theorem State.setDraws_fz (n : Nat) : (s.setDraws n).fz = s.fz := rfl
@[simp] theorem State.setDraws_fc (n : Nat) : (s.setDraws n).fc = s.fc := rfl
@[simp] theorem State.setDraws_ram (n : Nat) : (s.setDraws n).ram = s.ram := rfl
@[simp] theorem State.setDraws_run (n : Nat) : (s.setDraws n).run = s.run := rfl
@[simp] theorem State.setDraws_afterPset (n : Nat) : (s.setDraws n).afterPset = s.afterPset := rfl
@[simp] theorem State.setDraws_eiDelay (n : Nat) : (s.setDraws n).eiDelay = s.eiDelay := rfl
@[simp] theorem State.setDraws_inputs (n : Nat) : (s.setDraws n).inputs = s.inputs := rfl
@[simp] theorem State.setDraws_ioRegs (n : Nat) : (s.setDraws n).ioRegs = s.ioRegs := rfl
@[simp] theorem State.setDraws_ioTrace (n : Nat) : (s.setDraws n).ioTrace = s.ioTrace := rfl
@[simp] theorem State.setDraws_dev (n : Nat) : (s.setDraws n).dev = s.dev := rfl
@[simp] theorem State.setDraws_ramEpoch (n : Nat) : (s.setDraws n).ramEpoch = s.ramEpoch := rfl
@[simp] theorem State.setDraws_draws (n : Nat) : (s.setDraws n).draws = n := rfl
@[simp] theorem State.setDraws_clocks (n : Nat) : (s.setDraws n).clocks = s.clocks := rfl

@[simp] theorem State.setClocks_pcb (n : Nat) : (s.setClocks n).pcb = s.pcb := rfl
@[simp] theorem State.setClocks_pcp (n : Nat) : (s.setClocks n).pcp = s.pcp := rfl
@[simp] theorem State.setClocks_pcs (n : Nat) : (s.setClocks n).pcs = s.pcs := rfl
@[simp] theorem State.setClocks_nbp (n : Nat) : (s.setClocks n).nbp = s.nbp := rfl
@[simp] theorem State.setClocks_npp (n : Nat) : (s.setClocks n).npp = s.npp := rfl
@[simp] theorem State.setClocks_sp (n : Nat) : (s.setClocks n).sp = s.sp := rfl
@[simp] theorem State.setClocks_xp (n : Nat) : (s.setClocks n).xp = s.xp := rfl
@[simp] theorem State.setClocks_xh (n : Nat) : (s.setClocks n).xh = s.xh := rfl
@[simp] theorem State.setClocks_xl (n : Nat) : (s.setClocks n).xl = s.xl := rfl
@[simp] theorem State.setClocks_yp (n : Nat) : (s.setClocks n).yp = s.yp := rfl
@[simp] theorem State.setClocks_yh (n : Nat) : (s.setClocks n).yh = s.yh := rfl
@[simp] theorem State.setClocks_yl (n : Nat) : (s.setClocks n).yl = s.yl := rfl
@[simp] theorem State.setClocks_rp (n : Nat) : (s.setClocks n).rp = s.rp := rfl
@[simp] theorem State.setClocks_a (n : Nat) : (s.setClocks n).a = s.a := rfl
@[simp] theorem State.setClocks_b (n : Nat) : (s.setClocks n).b = s.b := rfl
@[simp] theorem State.setClocks_fi (n : Nat) : (s.setClocks n).fi = s.fi := rfl
@[simp] theorem State.setClocks_fd (n : Nat) : (s.setClocks n).fd = s.fd := rfl
@[simp] theorem State.setClocks_fz (n : Nat) : (s.setClocks n).fz = s.fz := rfl
@[simp] theorem State.setClocks_fc (n : Nat) : (s.setClocks n).fc = s.fc := rfl
@[simp] theorem State.setClocks_ram (n : Nat) : (s.setClocks n).ram = s.ram := rfl
@[simp] theorem State.setClocks_run (n : Nat) : (s.setClocks n).run = s.run := rfl
@[simp] theorem State.setClocks_afterPset (n : Nat) : (s.setClocks n).afterPset = s.afterPset := rfl
@[simp] theorem State.setClocks_eiDelay (n : Nat) : (s.setClocks n).eiDelay = s.eiDelay := rfl
@[simp] theorem State.setClocks_inputs (n : Nat) : (s.setClocks n).inputs = s.inputs := rfl
@[simp] theorem State.setClocks_ioRegs (n : Nat) : (s.setClocks n).ioRegs = s.ioRegs := rfl
@[simp] theorem State.setClocks_ioTrace (n : Nat) : (s.setClocks n).ioTrace = s.ioTrace := rfl
@[simp] theorem State.setClocks_dev (n : Nat) : (s.setClocks n).dev = s.dev := rfl
@[simp] theorem State.setClocks_ramEpoch (n : Nat) : (s.setClocks n).ramEpoch = s.ramEpoch := rfl
@[simp] theorem State.setClocks_draws (n : Nat) : (s.setClocks n).draws = s.draws := rfl
@[simp] theorem State.setClocks_clocks (n : Nat) : (s.setClocks n).clocks = n := rfl

end Sys2Proof.Machine
end

