-- ==== Sys2Proof/Laws/Composite.lean ====
section
/-! SUPPORT. What the operations built from several updates leave unchanged, one lemma a field. -/

namespace Sys2Proof.Machine

open Sys2Proof.Config

variable (s : State)

@[simp] theorem State.setX_pcb (v : Byte) : (s.setX v).pcb = s.pcb := rfl
@[simp] theorem State.setX_pcp (v : Byte) : (s.setX v).pcp = s.pcp := rfl
@[simp] theorem State.setX_pcs (v : Byte) : (s.setX v).pcs = s.pcs := rfl
@[simp] theorem State.setX_nbp (v : Byte) : (s.setX v).nbp = s.nbp := rfl
@[simp] theorem State.setX_npp (v : Byte) : (s.setX v).npp = s.npp := rfl
@[simp] theorem State.setX_sp (v : Byte) : (s.setX v).sp = s.sp := rfl
@[simp] theorem State.setX_xp (v : Byte) : (s.setX v).xp = s.xp := rfl
@[simp] theorem State.setX_yp (v : Byte) : (s.setX v).yp = s.yp := rfl
@[simp] theorem State.setX_yh (v : Byte) : (s.setX v).yh = s.yh := rfl
@[simp] theorem State.setX_yl (v : Byte) : (s.setX v).yl = s.yl := rfl
@[simp] theorem State.setX_rp (v : Byte) : (s.setX v).rp = s.rp := rfl
@[simp] theorem State.setX_a (v : Byte) : (s.setX v).a = s.a := rfl
@[simp] theorem State.setX_b (v : Byte) : (s.setX v).b = s.b := rfl
@[simp] theorem State.setX_fi (v : Byte) : (s.setX v).fi = s.fi := rfl
@[simp] theorem State.setX_fd (v : Byte) : (s.setX v).fd = s.fd := rfl
@[simp] theorem State.setX_fz (v : Byte) : (s.setX v).fz = s.fz := rfl
@[simp] theorem State.setX_fc (v : Byte) : (s.setX v).fc = s.fc := rfl
@[simp] theorem State.setX_ram (v : Byte) : (s.setX v).ram = s.ram := rfl
@[simp] theorem State.setX_run (v : Byte) : (s.setX v).run = s.run := rfl
@[simp] theorem State.setX_afterPset (v : Byte) : (s.setX v).afterPset = s.afterPset := rfl
@[simp] theorem State.setX_eiDelay (v : Byte) : (s.setX v).eiDelay = s.eiDelay := rfl
@[simp] theorem State.setX_inputs (v : Byte) : (s.setX v).inputs = s.inputs := rfl
@[simp] theorem State.setX_ioRegs (v : Byte) : (s.setX v).ioRegs = s.ioRegs := rfl
@[simp] theorem State.setX_ioTrace (v : Byte) : (s.setX v).ioTrace = s.ioTrace := rfl
@[simp] theorem State.setX_dev (v : Byte) : (s.setX v).dev = s.dev := rfl
@[simp] theorem State.setX_ramEpoch (v : Byte) : (s.setX v).ramEpoch = s.ramEpoch := rfl
@[simp] theorem State.setX_draws (v : Byte) : (s.setX v).draws = s.draws := rfl
@[simp] theorem State.setX_clocks (v : Byte) : (s.setX v).clocks = s.clocks := rfl

@[simp] theorem State.setY_pcb (v : Byte) : (s.setY v).pcb = s.pcb := rfl
@[simp] theorem State.setY_pcp (v : Byte) : (s.setY v).pcp = s.pcp := rfl
@[simp] theorem State.setY_pcs (v : Byte) : (s.setY v).pcs = s.pcs := rfl
@[simp] theorem State.setY_nbp (v : Byte) : (s.setY v).nbp = s.nbp := rfl
@[simp] theorem State.setY_npp (v : Byte) : (s.setY v).npp = s.npp := rfl
@[simp] theorem State.setY_sp (v : Byte) : (s.setY v).sp = s.sp := rfl
@[simp] theorem State.setY_xp (v : Byte) : (s.setY v).xp = s.xp := rfl
@[simp] theorem State.setY_xh (v : Byte) : (s.setY v).xh = s.xh := rfl
@[simp] theorem State.setY_xl (v : Byte) : (s.setY v).xl = s.xl := rfl
@[simp] theorem State.setY_yp (v : Byte) : (s.setY v).yp = s.yp := rfl
@[simp] theorem State.setY_rp (v : Byte) : (s.setY v).rp = s.rp := rfl
@[simp] theorem State.setY_a (v : Byte) : (s.setY v).a = s.a := rfl
@[simp] theorem State.setY_b (v : Byte) : (s.setY v).b = s.b := rfl
@[simp] theorem State.setY_fi (v : Byte) : (s.setY v).fi = s.fi := rfl
@[simp] theorem State.setY_fd (v : Byte) : (s.setY v).fd = s.fd := rfl
@[simp] theorem State.setY_fz (v : Byte) : (s.setY v).fz = s.fz := rfl
@[simp] theorem State.setY_fc (v : Byte) : (s.setY v).fc = s.fc := rfl
@[simp] theorem State.setY_ram (v : Byte) : (s.setY v).ram = s.ram := rfl
@[simp] theorem State.setY_run (v : Byte) : (s.setY v).run = s.run := rfl
@[simp] theorem State.setY_afterPset (v : Byte) : (s.setY v).afterPset = s.afterPset := rfl
@[simp] theorem State.setY_eiDelay (v : Byte) : (s.setY v).eiDelay = s.eiDelay := rfl
@[simp] theorem State.setY_inputs (v : Byte) : (s.setY v).inputs = s.inputs := rfl
@[simp] theorem State.setY_ioRegs (v : Byte) : (s.setY v).ioRegs = s.ioRegs := rfl
@[simp] theorem State.setY_ioTrace (v : Byte) : (s.setY v).ioTrace = s.ioTrace := rfl
@[simp] theorem State.setY_dev (v : Byte) : (s.setY v).dev = s.dev := rfl
@[simp] theorem State.setY_ramEpoch (v : Byte) : (s.setY v).ramEpoch = s.ramEpoch := rfl
@[simp] theorem State.setY_draws (v : Byte) : (s.setY v).draws = s.draws := rfl
@[simp] theorem State.setY_clocks (v : Byte) : (s.setY v).clocks = s.clocks := rfl

@[simp] theorem State.incX_pcb (k : Byte) : (s.incX k).pcb = s.pcb := rfl
@[simp] theorem State.incX_pcp (k : Byte) : (s.incX k).pcp = s.pcp := rfl
@[simp] theorem State.incX_pcs (k : Byte) : (s.incX k).pcs = s.pcs := rfl
@[simp] theorem State.incX_nbp (k : Byte) : (s.incX k).nbp = s.nbp := rfl
@[simp] theorem State.incX_npp (k : Byte) : (s.incX k).npp = s.npp := rfl
@[simp] theorem State.incX_sp (k : Byte) : (s.incX k).sp = s.sp := rfl
@[simp] theorem State.incX_xp (k : Byte) : (s.incX k).xp = s.xp := rfl
@[simp] theorem State.incX_yp (k : Byte) : (s.incX k).yp = s.yp := rfl
@[simp] theorem State.incX_yh (k : Byte) : (s.incX k).yh = s.yh := rfl
@[simp] theorem State.incX_yl (k : Byte) : (s.incX k).yl = s.yl := rfl
@[simp] theorem State.incX_rp (k : Byte) : (s.incX k).rp = s.rp := rfl
@[simp] theorem State.incX_a (k : Byte) : (s.incX k).a = s.a := rfl
@[simp] theorem State.incX_b (k : Byte) : (s.incX k).b = s.b := rfl
@[simp] theorem State.incX_fi (k : Byte) : (s.incX k).fi = s.fi := rfl
@[simp] theorem State.incX_fd (k : Byte) : (s.incX k).fd = s.fd := rfl
@[simp] theorem State.incX_fz (k : Byte) : (s.incX k).fz = s.fz := rfl
@[simp] theorem State.incX_fc (k : Byte) : (s.incX k).fc = s.fc := rfl
@[simp] theorem State.incX_ram (k : Byte) : (s.incX k).ram = s.ram := rfl
@[simp] theorem State.incX_run (k : Byte) : (s.incX k).run = s.run := rfl
@[simp] theorem State.incX_afterPset (k : Byte) : (s.incX k).afterPset = s.afterPset := rfl
@[simp] theorem State.incX_eiDelay (k : Byte) : (s.incX k).eiDelay = s.eiDelay := rfl
@[simp] theorem State.incX_inputs (k : Byte) : (s.incX k).inputs = s.inputs := rfl
@[simp] theorem State.incX_ioRegs (k : Byte) : (s.incX k).ioRegs = s.ioRegs := rfl
@[simp] theorem State.incX_ioTrace (k : Byte) : (s.incX k).ioTrace = s.ioTrace := rfl
@[simp] theorem State.incX_dev (k : Byte) : (s.incX k).dev = s.dev := rfl
@[simp] theorem State.incX_ramEpoch (k : Byte) : (s.incX k).ramEpoch = s.ramEpoch := rfl
@[simp] theorem State.incX_draws (k : Byte) : (s.incX k).draws = s.draws := rfl
@[simp] theorem State.incX_clocks (k : Byte) : (s.incX k).clocks = s.clocks := rfl

@[simp] theorem State.incY_pcb (k : Byte) : (s.incY k).pcb = s.pcb := rfl
@[simp] theorem State.incY_pcp (k : Byte) : (s.incY k).pcp = s.pcp := rfl
@[simp] theorem State.incY_pcs (k : Byte) : (s.incY k).pcs = s.pcs := rfl
@[simp] theorem State.incY_nbp (k : Byte) : (s.incY k).nbp = s.nbp := rfl
@[simp] theorem State.incY_npp (k : Byte) : (s.incY k).npp = s.npp := rfl
@[simp] theorem State.incY_sp (k : Byte) : (s.incY k).sp = s.sp := rfl
@[simp] theorem State.incY_xp (k : Byte) : (s.incY k).xp = s.xp := rfl
@[simp] theorem State.incY_xh (k : Byte) : (s.incY k).xh = s.xh := rfl
@[simp] theorem State.incY_xl (k : Byte) : (s.incY k).xl = s.xl := rfl
@[simp] theorem State.incY_yp (k : Byte) : (s.incY k).yp = s.yp := rfl
@[simp] theorem State.incY_rp (k : Byte) : (s.incY k).rp = s.rp := rfl
@[simp] theorem State.incY_a (k : Byte) : (s.incY k).a = s.a := rfl
@[simp] theorem State.incY_b (k : Byte) : (s.incY k).b = s.b := rfl
@[simp] theorem State.incY_fi (k : Byte) : (s.incY k).fi = s.fi := rfl
@[simp] theorem State.incY_fd (k : Byte) : (s.incY k).fd = s.fd := rfl
@[simp] theorem State.incY_fz (k : Byte) : (s.incY k).fz = s.fz := rfl
@[simp] theorem State.incY_fc (k : Byte) : (s.incY k).fc = s.fc := rfl
@[simp] theorem State.incY_ram (k : Byte) : (s.incY k).ram = s.ram := rfl
@[simp] theorem State.incY_run (k : Byte) : (s.incY k).run = s.run := rfl
@[simp] theorem State.incY_afterPset (k : Byte) : (s.incY k).afterPset = s.afterPset := rfl
@[simp] theorem State.incY_eiDelay (k : Byte) : (s.incY k).eiDelay = s.eiDelay := rfl
@[simp] theorem State.incY_inputs (k : Byte) : (s.incY k).inputs = s.inputs := rfl
@[simp] theorem State.incY_ioRegs (k : Byte) : (s.incY k).ioRegs = s.ioRegs := rfl
@[simp] theorem State.incY_ioTrace (k : Byte) : (s.incY k).ioTrace = s.ioTrace := rfl
@[simp] theorem State.incY_dev (k : Byte) : (s.incY k).dev = s.dev := rfl
@[simp] theorem State.incY_ramEpoch (k : Byte) : (s.incY k).ramEpoch = s.ramEpoch := rfl
@[simp] theorem State.incY_draws (k : Byte) : (s.incY k).draws = s.draws := rfl
@[simp] theorem State.incY_clocks (k : Byte) : (s.incY k).clocks = s.clocks := rfl

@[simp] theorem State.setF_pcb (v : Nibble) : (s.setF v).pcb = s.pcb := by simp only [State.setF, State.setI_pcb, State.setD_pcb, State.setZ_pcb, State.setC_pcb]
@[simp] theorem State.setF_pcp (v : Nibble) : (s.setF v).pcp = s.pcp := by simp only [State.setF, State.setI_pcp, State.setD_pcp, State.setZ_pcp, State.setC_pcp]
@[simp] theorem State.setF_pcs (v : Nibble) : (s.setF v).pcs = s.pcs := by simp only [State.setF, State.setI_pcs, State.setD_pcs, State.setZ_pcs, State.setC_pcs]
@[simp] theorem State.setF_nbp (v : Nibble) : (s.setF v).nbp = s.nbp := by simp only [State.setF, State.setI_nbp, State.setD_nbp, State.setZ_nbp, State.setC_nbp]
@[simp] theorem State.setF_npp (v : Nibble) : (s.setF v).npp = s.npp := by simp only [State.setF, State.setI_npp, State.setD_npp, State.setZ_npp, State.setC_npp]
@[simp] theorem State.setF_sp (v : Nibble) : (s.setF v).sp = s.sp := by simp only [State.setF, State.setI_sp, State.setD_sp, State.setZ_sp, State.setC_sp]
@[simp] theorem State.setF_xp (v : Nibble) : (s.setF v).xp = s.xp := by simp only [State.setF, State.setI_xp, State.setD_xp, State.setZ_xp, State.setC_xp]
@[simp] theorem State.setF_xh (v : Nibble) : (s.setF v).xh = s.xh := by simp only [State.setF, State.setI_xh, State.setD_xh, State.setZ_xh, State.setC_xh]
@[simp] theorem State.setF_xl (v : Nibble) : (s.setF v).xl = s.xl := by simp only [State.setF, State.setI_xl, State.setD_xl, State.setZ_xl, State.setC_xl]
@[simp] theorem State.setF_yp (v : Nibble) : (s.setF v).yp = s.yp := by simp only [State.setF, State.setI_yp, State.setD_yp, State.setZ_yp, State.setC_yp]
@[simp] theorem State.setF_yh (v : Nibble) : (s.setF v).yh = s.yh := by simp only [State.setF, State.setI_yh, State.setD_yh, State.setZ_yh, State.setC_yh]
@[simp] theorem State.setF_yl (v : Nibble) : (s.setF v).yl = s.yl := by simp only [State.setF, State.setI_yl, State.setD_yl, State.setZ_yl, State.setC_yl]
@[simp] theorem State.setF_rp (v : Nibble) : (s.setF v).rp = s.rp := by simp only [State.setF, State.setI_rp, State.setD_rp, State.setZ_rp, State.setC_rp]
@[simp] theorem State.setF_a (v : Nibble) : (s.setF v).a = s.a := by simp only [State.setF, State.setI_a, State.setD_a, State.setZ_a, State.setC_a]
@[simp] theorem State.setF_b (v : Nibble) : (s.setF v).b = s.b := by simp only [State.setF, State.setI_b, State.setD_b, State.setZ_b, State.setC_b]
@[simp] theorem State.setF_ram (v : Nibble) : (s.setF v).ram = s.ram := by simp only [State.setF, State.setI_ram, State.setD_ram, State.setZ_ram, State.setC_ram]
@[simp] theorem State.setF_run (v : Nibble) : (s.setF v).run = s.run := by simp only [State.setF, State.setI_run, State.setD_run, State.setZ_run, State.setC_run]
@[simp] theorem State.setF_afterPset (v : Nibble) : (s.setF v).afterPset = s.afterPset := by simp only [State.setF, State.setI_afterPset, State.setD_afterPset, State.setZ_afterPset, State.setC_afterPset]
@[simp] theorem State.setF_eiDelay (v : Nibble) : (s.setF v).eiDelay = s.eiDelay := by simp only [State.setF, State.setI_eiDelay, State.setD_eiDelay, State.setZ_eiDelay, State.setC_eiDelay]
@[simp] theorem State.setF_inputs (v : Nibble) : (s.setF v).inputs = s.inputs := by simp only [State.setF, State.setI_inputs, State.setD_inputs, State.setZ_inputs, State.setC_inputs]
@[simp] theorem State.setF_ioRegs (v : Nibble) : (s.setF v).ioRegs = s.ioRegs := by simp only [State.setF, State.setI_ioRegs, State.setD_ioRegs, State.setZ_ioRegs, State.setC_ioRegs]
@[simp] theorem State.setF_ioTrace (v : Nibble) : (s.setF v).ioTrace = s.ioTrace := by simp only [State.setF, State.setI_ioTrace, State.setD_ioTrace, State.setZ_ioTrace, State.setC_ioTrace]
@[simp] theorem State.setF_dev (v : Nibble) : (s.setF v).dev = s.dev := by simp only [State.setF, State.setI_dev, State.setD_dev, State.setZ_dev, State.setC_dev]
@[simp] theorem State.setF_ramEpoch (v : Nibble) : (s.setF v).ramEpoch = s.ramEpoch := by simp only [State.setF, State.setI_ramEpoch, State.setD_ramEpoch, State.setZ_ramEpoch, State.setC_ramEpoch]
@[simp] theorem State.setF_draws (v : Nibble) : (s.setF v).draws = s.draws := by simp only [State.setF, State.setI_draws, State.setD_draws, State.setZ_draws, State.setC_draws]
@[simp] theorem State.setF_clocks (v : Nibble) : (s.setF v).clocks = s.clocks := by simp only [State.setF, State.setI_clocks, State.setD_clocks, State.setZ_clocks, State.setC_clocks]

@[simp] theorem State.setCounter_pcb (v : BitVec 12) : (s.setCounter v).pcb = s.pcb := rfl
@[simp] theorem State.setCounter_nbp (v : BitVec 12) : (s.setCounter v).nbp = s.nbp := rfl
@[simp] theorem State.setCounter_npp (v : BitVec 12) : (s.setCounter v).npp = s.npp := rfl
@[simp] theorem State.setCounter_sp (v : BitVec 12) : (s.setCounter v).sp = s.sp := rfl
@[simp] theorem State.setCounter_xp (v : BitVec 12) : (s.setCounter v).xp = s.xp := rfl
@[simp] theorem State.setCounter_xh (v : BitVec 12) : (s.setCounter v).xh = s.xh := rfl
@[simp] theorem State.setCounter_xl (v : BitVec 12) : (s.setCounter v).xl = s.xl := rfl
@[simp] theorem State.setCounter_yp (v : BitVec 12) : (s.setCounter v).yp = s.yp := rfl
@[simp] theorem State.setCounter_yh (v : BitVec 12) : (s.setCounter v).yh = s.yh := rfl
@[simp] theorem State.setCounter_yl (v : BitVec 12) : (s.setCounter v).yl = s.yl := rfl
@[simp] theorem State.setCounter_rp (v : BitVec 12) : (s.setCounter v).rp = s.rp := rfl
@[simp] theorem State.setCounter_a (v : BitVec 12) : (s.setCounter v).a = s.a := rfl
@[simp] theorem State.setCounter_b (v : BitVec 12) : (s.setCounter v).b = s.b := rfl
@[simp] theorem State.setCounter_fi (v : BitVec 12) : (s.setCounter v).fi = s.fi := rfl
@[simp] theorem State.setCounter_fd (v : BitVec 12) : (s.setCounter v).fd = s.fd := rfl
@[simp] theorem State.setCounter_fz (v : BitVec 12) : (s.setCounter v).fz = s.fz := rfl
@[simp] theorem State.setCounter_fc (v : BitVec 12) : (s.setCounter v).fc = s.fc := rfl
@[simp] theorem State.setCounter_ram (v : BitVec 12) : (s.setCounter v).ram = s.ram := rfl
@[simp] theorem State.setCounter_run (v : BitVec 12) : (s.setCounter v).run = s.run := rfl
@[simp] theorem State.setCounter_afterPset (v : BitVec 12) : (s.setCounter v).afterPset = s.afterPset := rfl
@[simp] theorem State.setCounter_eiDelay (v : BitVec 12) : (s.setCounter v).eiDelay = s.eiDelay := rfl
@[simp] theorem State.setCounter_inputs (v : BitVec 12) : (s.setCounter v).inputs = s.inputs := rfl
@[simp] theorem State.setCounter_ioRegs (v : BitVec 12) : (s.setCounter v).ioRegs = s.ioRegs := rfl
@[simp] theorem State.setCounter_ioTrace (v : BitVec 12) : (s.setCounter v).ioTrace = s.ioTrace := rfl
@[simp] theorem State.setCounter_dev (v : BitVec 12) : (s.setCounter v).dev = s.dev := rfl
@[simp] theorem State.setCounter_ramEpoch (v : BitVec 12) : (s.setCounter v).ramEpoch = s.ramEpoch := rfl
@[simp] theorem State.setCounter_draws (v : BitVec 12) : (s.setCounter v).draws = s.draws := rfl
@[simp] theorem State.setCounter_clocks (v : BitVec 12) : (s.setCounter v).clocks = s.clocks := rfl

@[simp] theorem State.advance_pcb : (s.advance).pcb = s.pcb := rfl
@[simp] theorem State.advance_nbp : (s.advance).nbp = s.nbp := rfl
@[simp] theorem State.advance_npp : (s.advance).npp = s.npp := rfl
@[simp] theorem State.advance_sp : (s.advance).sp = s.sp := rfl
@[simp] theorem State.advance_xp : (s.advance).xp = s.xp := rfl
@[simp] theorem State.advance_xh : (s.advance).xh = s.xh := rfl
@[simp] theorem State.advance_xl : (s.advance).xl = s.xl := rfl
@[simp] theorem State.advance_yp : (s.advance).yp = s.yp := rfl
@[simp] theorem State.advance_yh : (s.advance).yh = s.yh := rfl
@[simp] theorem State.advance_yl : (s.advance).yl = s.yl := rfl
@[simp] theorem State.advance_rp : (s.advance).rp = s.rp := rfl
@[simp] theorem State.advance_a : (s.advance).a = s.a := rfl
@[simp] theorem State.advance_b : (s.advance).b = s.b := rfl
@[simp] theorem State.advance_fi : (s.advance).fi = s.fi := rfl
@[simp] theorem State.advance_fd : (s.advance).fd = s.fd := rfl
@[simp] theorem State.advance_fz : (s.advance).fz = s.fz := rfl
@[simp] theorem State.advance_fc : (s.advance).fc = s.fc := rfl
@[simp] theorem State.advance_ram : (s.advance).ram = s.ram := rfl
@[simp] theorem State.advance_run : (s.advance).run = s.run := rfl
@[simp] theorem State.advance_afterPset : (s.advance).afterPset = s.afterPset := rfl
@[simp] theorem State.advance_eiDelay : (s.advance).eiDelay = s.eiDelay := rfl
@[simp] theorem State.advance_inputs : (s.advance).inputs = s.inputs := rfl
@[simp] theorem State.advance_ioRegs : (s.advance).ioRegs = s.ioRegs := rfl
@[simp] theorem State.advance_ioTrace : (s.advance).ioTrace = s.ioTrace := rfl
@[simp] theorem State.advance_dev : (s.advance).dev = s.dev := rfl
@[simp] theorem State.advance_ramEpoch : (s.advance).ramEpoch = s.ramEpoch := rfl
@[simp] theorem State.advance_draws : (s.advance).draws = s.draws := rfl
@[simp] theorem State.advance_clocks : (s.advance).clocks = s.clocks := rfl

@[simp] theorem State.jumpTo_nbp (d : Byte) : (s.jumpTo d).nbp = s.nbp := rfl
@[simp] theorem State.jumpTo_npp (d : Byte) : (s.jumpTo d).npp = s.npp := rfl
@[simp] theorem State.jumpTo_sp (d : Byte) : (s.jumpTo d).sp = s.sp := rfl
@[simp] theorem State.jumpTo_xp (d : Byte) : (s.jumpTo d).xp = s.xp := rfl
@[simp] theorem State.jumpTo_xh (d : Byte) : (s.jumpTo d).xh = s.xh := rfl
@[simp] theorem State.jumpTo_xl (d : Byte) : (s.jumpTo d).xl = s.xl := rfl
@[simp] theorem State.jumpTo_yp (d : Byte) : (s.jumpTo d).yp = s.yp := rfl
@[simp] theorem State.jumpTo_yh (d : Byte) : (s.jumpTo d).yh = s.yh := rfl
@[simp] theorem State.jumpTo_yl (d : Byte) : (s.jumpTo d).yl = s.yl := rfl
@[simp] theorem State.jumpTo_rp (d : Byte) : (s.jumpTo d).rp = s.rp := rfl
@[simp] theorem State.jumpTo_a (d : Byte) : (s.jumpTo d).a = s.a := rfl
@[simp] theorem State.jumpTo_b (d : Byte) : (s.jumpTo d).b = s.b := rfl
@[simp] theorem State.jumpTo_fi (d : Byte) : (s.jumpTo d).fi = s.fi := rfl
@[simp] theorem State.jumpTo_fd (d : Byte) : (s.jumpTo d).fd = s.fd := rfl
@[simp] theorem State.jumpTo_fz (d : Byte) : (s.jumpTo d).fz = s.fz := rfl
@[simp] theorem State.jumpTo_fc (d : Byte) : (s.jumpTo d).fc = s.fc := rfl
@[simp] theorem State.jumpTo_ram (d : Byte) : (s.jumpTo d).ram = s.ram := rfl
@[simp] theorem State.jumpTo_run (d : Byte) : (s.jumpTo d).run = s.run := rfl
@[simp] theorem State.jumpTo_afterPset (d : Byte) : (s.jumpTo d).afterPset = s.afterPset := rfl
@[simp] theorem State.jumpTo_eiDelay (d : Byte) : (s.jumpTo d).eiDelay = s.eiDelay := rfl
@[simp] theorem State.jumpTo_inputs (d : Byte) : (s.jumpTo d).inputs = s.inputs := rfl
@[simp] theorem State.jumpTo_ioRegs (d : Byte) : (s.jumpTo d).ioRegs = s.ioRegs := rfl
@[simp] theorem State.jumpTo_ioTrace (d : Byte) : (s.jumpTo d).ioTrace = s.ioTrace := rfl
@[simp] theorem State.jumpTo_dev (d : Byte) : (s.jumpTo d).dev = s.dev := rfl
@[simp] theorem State.jumpTo_ramEpoch (d : Byte) : (s.jumpTo d).ramEpoch = s.ramEpoch := rfl
@[simp] theorem State.jumpTo_draws (d : Byte) : (s.jumpTo d).draws = s.draws := rfl
@[simp] theorem State.jumpTo_clocks (d : Byte) : (s.jumpTo d).clocks = s.clocks := rfl

@[simp] theorem State.setAlu_pcb (o : AluOut) : (s.setAlu o).pcb = s.pcb := rfl
@[simp] theorem State.setAlu_pcp (o : AluOut) : (s.setAlu o).pcp = s.pcp := rfl
@[simp] theorem State.setAlu_pcs (o : AluOut) : (s.setAlu o).pcs = s.pcs := rfl
@[simp] theorem State.setAlu_nbp (o : AluOut) : (s.setAlu o).nbp = s.nbp := rfl
@[simp] theorem State.setAlu_npp (o : AluOut) : (s.setAlu o).npp = s.npp := rfl
@[simp] theorem State.setAlu_sp (o : AluOut) : (s.setAlu o).sp = s.sp := rfl
@[simp] theorem State.setAlu_xp (o : AluOut) : (s.setAlu o).xp = s.xp := rfl
@[simp] theorem State.setAlu_xh (o : AluOut) : (s.setAlu o).xh = s.xh := rfl
@[simp] theorem State.setAlu_xl (o : AluOut) : (s.setAlu o).xl = s.xl := rfl
@[simp] theorem State.setAlu_yp (o : AluOut) : (s.setAlu o).yp = s.yp := rfl
@[simp] theorem State.setAlu_yh (o : AluOut) : (s.setAlu o).yh = s.yh := rfl
@[simp] theorem State.setAlu_yl (o : AluOut) : (s.setAlu o).yl = s.yl := rfl
@[simp] theorem State.setAlu_rp (o : AluOut) : (s.setAlu o).rp = s.rp := rfl
@[simp] theorem State.setAlu_a (o : AluOut) : (s.setAlu o).a = s.a := rfl
@[simp] theorem State.setAlu_b (o : AluOut) : (s.setAlu o).b = s.b := rfl
@[simp] theorem State.setAlu_fi (o : AluOut) : (s.setAlu o).fi = s.fi := rfl
@[simp] theorem State.setAlu_fd (o : AluOut) : (s.setAlu o).fd = s.fd := rfl
@[simp] theorem State.setAlu_ram (o : AluOut) : (s.setAlu o).ram = s.ram := rfl
@[simp] theorem State.setAlu_run (o : AluOut) : (s.setAlu o).run = s.run := rfl
@[simp] theorem State.setAlu_afterPset (o : AluOut) : (s.setAlu o).afterPset = s.afterPset := rfl
@[simp] theorem State.setAlu_eiDelay (o : AluOut) : (s.setAlu o).eiDelay = s.eiDelay := rfl
@[simp] theorem State.setAlu_inputs (o : AluOut) : (s.setAlu o).inputs = s.inputs := rfl
@[simp] theorem State.setAlu_ioRegs (o : AluOut) : (s.setAlu o).ioRegs = s.ioRegs := rfl
@[simp] theorem State.setAlu_ioTrace (o : AluOut) : (s.setAlu o).ioTrace = s.ioTrace := rfl
@[simp] theorem State.setAlu_dev (o : AluOut) : (s.setAlu o).dev = s.dev := rfl
@[simp] theorem State.setAlu_ramEpoch (o : AluOut) : (s.setAlu o).ramEpoch = s.ramEpoch := rfl
@[simp] theorem State.setAlu_clocks (o : AluOut) : (s.setAlu o).clocks = s.clocks := rfl

@[simp] theorem State.orFlags_pcb (i : Nibble) : (s.orFlags i).pcb = s.pcb := by simp only [State.orFlags, State.setI_pcb, State.setD_pcb, State.setZ_pcb, State.setC_pcb]
@[simp] theorem State.orFlags_pcp (i : Nibble) : (s.orFlags i).pcp = s.pcp := by simp only [State.orFlags, State.setI_pcp, State.setD_pcp, State.setZ_pcp, State.setC_pcp]
@[simp] theorem State.orFlags_pcs (i : Nibble) : (s.orFlags i).pcs = s.pcs := by simp only [State.orFlags, State.setI_pcs, State.setD_pcs, State.setZ_pcs, State.setC_pcs]
@[simp] theorem State.orFlags_nbp (i : Nibble) : (s.orFlags i).nbp = s.nbp := by simp only [State.orFlags, State.setI_nbp, State.setD_nbp, State.setZ_nbp, State.setC_nbp]
@[simp] theorem State.orFlags_npp (i : Nibble) : (s.orFlags i).npp = s.npp := by simp only [State.orFlags, State.setI_npp, State.setD_npp, State.setZ_npp, State.setC_npp]
@[simp] theorem State.orFlags_sp (i : Nibble) : (s.orFlags i).sp = s.sp := by simp only [State.orFlags, State.setI_sp, State.setD_sp, State.setZ_sp, State.setC_sp]
@[simp] theorem State.orFlags_xp (i : Nibble) : (s.orFlags i).xp = s.xp := by simp only [State.orFlags, State.setI_xp, State.setD_xp, State.setZ_xp, State.setC_xp]
@[simp] theorem State.orFlags_xh (i : Nibble) : (s.orFlags i).xh = s.xh := by simp only [State.orFlags, State.setI_xh, State.setD_xh, State.setZ_xh, State.setC_xh]
@[simp] theorem State.orFlags_xl (i : Nibble) : (s.orFlags i).xl = s.xl := by simp only [State.orFlags, State.setI_xl, State.setD_xl, State.setZ_xl, State.setC_xl]
@[simp] theorem State.orFlags_yp (i : Nibble) : (s.orFlags i).yp = s.yp := by simp only [State.orFlags, State.setI_yp, State.setD_yp, State.setZ_yp, State.setC_yp]
@[simp] theorem State.orFlags_yh (i : Nibble) : (s.orFlags i).yh = s.yh := by simp only [State.orFlags, State.setI_yh, State.setD_yh, State.setZ_yh, State.setC_yh]
@[simp] theorem State.orFlags_yl (i : Nibble) : (s.orFlags i).yl = s.yl := by simp only [State.orFlags, State.setI_yl, State.setD_yl, State.setZ_yl, State.setC_yl]
@[simp] theorem State.orFlags_rp (i : Nibble) : (s.orFlags i).rp = s.rp := by simp only [State.orFlags, State.setI_rp, State.setD_rp, State.setZ_rp, State.setC_rp]
@[simp] theorem State.orFlags_a (i : Nibble) : (s.orFlags i).a = s.a := by simp only [State.orFlags, State.setI_a, State.setD_a, State.setZ_a, State.setC_a]
@[simp] theorem State.orFlags_b (i : Nibble) : (s.orFlags i).b = s.b := by simp only [State.orFlags, State.setI_b, State.setD_b, State.setZ_b, State.setC_b]
@[simp] theorem State.orFlags_ram (i : Nibble) : (s.orFlags i).ram = s.ram := by simp only [State.orFlags, State.setI_ram, State.setD_ram, State.setZ_ram, State.setC_ram]
@[simp] theorem State.orFlags_run (i : Nibble) : (s.orFlags i).run = s.run := by simp only [State.orFlags, State.setI_run, State.setD_run, State.setZ_run, State.setC_run]
@[simp] theorem State.orFlags_afterPset (i : Nibble) : (s.orFlags i).afterPset = s.afterPset := by simp only [State.orFlags, State.setI_afterPset, State.setD_afterPset, State.setZ_afterPset, State.setC_afterPset]
@[simp] theorem State.orFlags_eiDelay (i : Nibble) : (s.orFlags i).eiDelay = s.eiDelay := by simp only [State.orFlags, State.setI_eiDelay, State.setD_eiDelay, State.setZ_eiDelay, State.setC_eiDelay]
@[simp] theorem State.orFlags_inputs (i : Nibble) : (s.orFlags i).inputs = s.inputs := by simp only [State.orFlags, State.setI_inputs, State.setD_inputs, State.setZ_inputs, State.setC_inputs]
@[simp] theorem State.orFlags_ioRegs (i : Nibble) : (s.orFlags i).ioRegs = s.ioRegs := by simp only [State.orFlags, State.setI_ioRegs, State.setD_ioRegs, State.setZ_ioRegs, State.setC_ioRegs]
@[simp] theorem State.orFlags_ioTrace (i : Nibble) : (s.orFlags i).ioTrace = s.ioTrace := by simp only [State.orFlags, State.setI_ioTrace, State.setD_ioTrace, State.setZ_ioTrace, State.setC_ioTrace]
@[simp] theorem State.orFlags_dev (i : Nibble) : (s.orFlags i).dev = s.dev := by simp only [State.orFlags, State.setI_dev, State.setD_dev, State.setZ_dev, State.setC_dev]
@[simp] theorem State.orFlags_ramEpoch (i : Nibble) : (s.orFlags i).ramEpoch = s.ramEpoch := by simp only [State.orFlags, State.setI_ramEpoch, State.setD_ramEpoch, State.setZ_ramEpoch, State.setC_ramEpoch]
@[simp] theorem State.orFlags_draws (i : Nibble) : (s.orFlags i).draws = s.draws := by simp only [State.orFlags, State.setI_draws, State.setD_draws, State.setZ_draws, State.setC_draws]
@[simp] theorem State.orFlags_clocks (i : Nibble) : (s.orFlags i).clocks = s.clocks := by simp only [State.orFlags, State.setI_clocks, State.setD_clocks, State.setZ_clocks, State.setC_clocks]

@[simp] theorem State.andFlags_pcb (i : Nibble) : (s.andFlags i).pcb = s.pcb := by simp only [State.andFlags, State.setI_pcb, State.setD_pcb, State.setZ_pcb, State.setC_pcb]
@[simp] theorem State.andFlags_pcp (i : Nibble) : (s.andFlags i).pcp = s.pcp := by simp only [State.andFlags, State.setI_pcp, State.setD_pcp, State.setZ_pcp, State.setC_pcp]
@[simp] theorem State.andFlags_pcs (i : Nibble) : (s.andFlags i).pcs = s.pcs := by simp only [State.andFlags, State.setI_pcs, State.setD_pcs, State.setZ_pcs, State.setC_pcs]
@[simp] theorem State.andFlags_nbp (i : Nibble) : (s.andFlags i).nbp = s.nbp := by simp only [State.andFlags, State.setI_nbp, State.setD_nbp, State.setZ_nbp, State.setC_nbp]
@[simp] theorem State.andFlags_npp (i : Nibble) : (s.andFlags i).npp = s.npp := by simp only [State.andFlags, State.setI_npp, State.setD_npp, State.setZ_npp, State.setC_npp]
@[simp] theorem State.andFlags_sp (i : Nibble) : (s.andFlags i).sp = s.sp := by simp only [State.andFlags, State.setI_sp, State.setD_sp, State.setZ_sp, State.setC_sp]
@[simp] theorem State.andFlags_xp (i : Nibble) : (s.andFlags i).xp = s.xp := by simp only [State.andFlags, State.setI_xp, State.setD_xp, State.setZ_xp, State.setC_xp]
@[simp] theorem State.andFlags_xh (i : Nibble) : (s.andFlags i).xh = s.xh := by simp only [State.andFlags, State.setI_xh, State.setD_xh, State.setZ_xh, State.setC_xh]
@[simp] theorem State.andFlags_xl (i : Nibble) : (s.andFlags i).xl = s.xl := by simp only [State.andFlags, State.setI_xl, State.setD_xl, State.setZ_xl, State.setC_xl]
@[simp] theorem State.andFlags_yp (i : Nibble) : (s.andFlags i).yp = s.yp := by simp only [State.andFlags, State.setI_yp, State.setD_yp, State.setZ_yp, State.setC_yp]
@[simp] theorem State.andFlags_yh (i : Nibble) : (s.andFlags i).yh = s.yh := by simp only [State.andFlags, State.setI_yh, State.setD_yh, State.setZ_yh, State.setC_yh]
@[simp] theorem State.andFlags_yl (i : Nibble) : (s.andFlags i).yl = s.yl := by simp only [State.andFlags, State.setI_yl, State.setD_yl, State.setZ_yl, State.setC_yl]
@[simp] theorem State.andFlags_rp (i : Nibble) : (s.andFlags i).rp = s.rp := by simp only [State.andFlags, State.setI_rp, State.setD_rp, State.setZ_rp, State.setC_rp]
@[simp] theorem State.andFlags_a (i : Nibble) : (s.andFlags i).a = s.a := by simp only [State.andFlags, State.setI_a, State.setD_a, State.setZ_a, State.setC_a]
@[simp] theorem State.andFlags_b (i : Nibble) : (s.andFlags i).b = s.b := by simp only [State.andFlags, State.setI_b, State.setD_b, State.setZ_b, State.setC_b]
@[simp] theorem State.andFlags_ram (i : Nibble) : (s.andFlags i).ram = s.ram := by simp only [State.andFlags, State.setI_ram, State.setD_ram, State.setZ_ram, State.setC_ram]
@[simp] theorem State.andFlags_run (i : Nibble) : (s.andFlags i).run = s.run := by simp only [State.andFlags, State.setI_run, State.setD_run, State.setZ_run, State.setC_run]
@[simp] theorem State.andFlags_afterPset (i : Nibble) : (s.andFlags i).afterPset = s.afterPset := by simp only [State.andFlags, State.setI_afterPset, State.setD_afterPset, State.setZ_afterPset, State.setC_afterPset]
@[simp] theorem State.andFlags_eiDelay (i : Nibble) : (s.andFlags i).eiDelay = s.eiDelay := by simp only [State.andFlags, State.setI_eiDelay, State.setD_eiDelay, State.setZ_eiDelay, State.setC_eiDelay]
@[simp] theorem State.andFlags_inputs (i : Nibble) : (s.andFlags i).inputs = s.inputs := by simp only [State.andFlags, State.setI_inputs, State.setD_inputs, State.setZ_inputs, State.setC_inputs]
@[simp] theorem State.andFlags_ioRegs (i : Nibble) : (s.andFlags i).ioRegs = s.ioRegs := by simp only [State.andFlags, State.setI_ioRegs, State.setD_ioRegs, State.setZ_ioRegs, State.setC_ioRegs]
@[simp] theorem State.andFlags_ioTrace (i : Nibble) : (s.andFlags i).ioTrace = s.ioTrace := by simp only [State.andFlags, State.setI_ioTrace, State.setD_ioTrace, State.setZ_ioTrace, State.setC_ioTrace]
@[simp] theorem State.andFlags_dev (i : Nibble) : (s.andFlags i).dev = s.dev := by simp only [State.andFlags, State.setI_dev, State.setD_dev, State.setZ_dev, State.setC_dev]
@[simp] theorem State.andFlags_ramEpoch (i : Nibble) : (s.andFlags i).ramEpoch = s.ramEpoch := by simp only [State.andFlags, State.setI_ramEpoch, State.setD_ramEpoch, State.setZ_ramEpoch, State.setC_ramEpoch]
@[simp] theorem State.andFlags_draws (i : Nibble) : (s.andFlags i).draws = s.draws := by simp only [State.andFlags, State.setI_draws, State.setD_draws, State.setZ_draws, State.setC_draws]
@[simp] theorem State.andFlags_clocks (i : Nibble) : (s.andFlags i).clocks = s.clocks := by simp only [State.andFlags, State.setI_clocks, State.setD_clocks, State.setZ_clocks, State.setC_clocks]

@[simp] theorem State.rotateZ_pcb (v : Nibble) : (s.rotateZ v).pcb = s.pcb := by unfold State.rotateZ; split <;> rfl
@[simp] theorem State.rotateZ_pcp (v : Nibble) : (s.rotateZ v).pcp = s.pcp := by unfold State.rotateZ; split <;> rfl
@[simp] theorem State.rotateZ_pcs (v : Nibble) : (s.rotateZ v).pcs = s.pcs := by unfold State.rotateZ; split <;> rfl
@[simp] theorem State.rotateZ_nbp (v : Nibble) : (s.rotateZ v).nbp = s.nbp := by unfold State.rotateZ; split <;> rfl
@[simp] theorem State.rotateZ_npp (v : Nibble) : (s.rotateZ v).npp = s.npp := by unfold State.rotateZ; split <;> rfl
@[simp] theorem State.rotateZ_sp (v : Nibble) : (s.rotateZ v).sp = s.sp := by unfold State.rotateZ; split <;> rfl
@[simp] theorem State.rotateZ_xp (v : Nibble) : (s.rotateZ v).xp = s.xp := by unfold State.rotateZ; split <;> rfl
@[simp] theorem State.rotateZ_xh (v : Nibble) : (s.rotateZ v).xh = s.xh := by unfold State.rotateZ; split <;> rfl
@[simp] theorem State.rotateZ_xl (v : Nibble) : (s.rotateZ v).xl = s.xl := by unfold State.rotateZ; split <;> rfl
@[simp] theorem State.rotateZ_yp (v : Nibble) : (s.rotateZ v).yp = s.yp := by unfold State.rotateZ; split <;> rfl
@[simp] theorem State.rotateZ_yh (v : Nibble) : (s.rotateZ v).yh = s.yh := by unfold State.rotateZ; split <;> rfl
@[simp] theorem State.rotateZ_yl (v : Nibble) : (s.rotateZ v).yl = s.yl := by unfold State.rotateZ; split <;> rfl
@[simp] theorem State.rotateZ_rp (v : Nibble) : (s.rotateZ v).rp = s.rp := by unfold State.rotateZ; split <;> rfl
@[simp] theorem State.rotateZ_a (v : Nibble) : (s.rotateZ v).a = s.a := by unfold State.rotateZ; split <;> rfl
@[simp] theorem State.rotateZ_b (v : Nibble) : (s.rotateZ v).b = s.b := by unfold State.rotateZ; split <;> rfl
@[simp] theorem State.rotateZ_fi (v : Nibble) : (s.rotateZ v).fi = s.fi := by unfold State.rotateZ; split <;> rfl
@[simp] theorem State.rotateZ_fd (v : Nibble) : (s.rotateZ v).fd = s.fd := by unfold State.rotateZ; split <;> rfl
@[simp] theorem State.rotateZ_fc (v : Nibble) : (s.rotateZ v).fc = s.fc := by unfold State.rotateZ; split <;> rfl
@[simp] theorem State.rotateZ_ram (v : Nibble) : (s.rotateZ v).ram = s.ram := by unfold State.rotateZ; split <;> rfl
@[simp] theorem State.rotateZ_run (v : Nibble) : (s.rotateZ v).run = s.run := by unfold State.rotateZ; split <;> rfl
@[simp] theorem State.rotateZ_afterPset (v : Nibble) : (s.rotateZ v).afterPset = s.afterPset := by unfold State.rotateZ; split <;> rfl
@[simp] theorem State.rotateZ_eiDelay (v : Nibble) : (s.rotateZ v).eiDelay = s.eiDelay := by unfold State.rotateZ; split <;> rfl
@[simp] theorem State.rotateZ_inputs (v : Nibble) : (s.rotateZ v).inputs = s.inputs := by unfold State.rotateZ; split <;> rfl
@[simp] theorem State.rotateZ_ioRegs (v : Nibble) : (s.rotateZ v).ioRegs = s.ioRegs := by unfold State.rotateZ; split <;> rfl
@[simp] theorem State.rotateZ_ioTrace (v : Nibble) : (s.rotateZ v).ioTrace = s.ioTrace := by unfold State.rotateZ; split <;> rfl
@[simp] theorem State.rotateZ_dev (v : Nibble) : (s.rotateZ v).dev = s.dev := by unfold State.rotateZ; split <;> rfl
@[simp] theorem State.rotateZ_ramEpoch (v : Nibble) : (s.rotateZ v).ramEpoch = s.ramEpoch := by unfold State.rotateZ; split <;> rfl
@[simp] theorem State.rotateZ_clocks (v : Nibble) : (s.rotateZ v).clocks = s.clocks := by unfold State.rotateZ; split <;> rfl

@[simp] theorem State.access_pcb (c : IoAccess) : (s.access c).pcb = s.pcb := rfl
@[simp] theorem State.access_pcp (c : IoAccess) : (s.access c).pcp = s.pcp := rfl
@[simp] theorem State.access_pcs (c : IoAccess) : (s.access c).pcs = s.pcs := rfl
@[simp] theorem State.access_nbp (c : IoAccess) : (s.access c).nbp = s.nbp := rfl
@[simp] theorem State.access_npp (c : IoAccess) : (s.access c).npp = s.npp := rfl
@[simp] theorem State.access_sp (c : IoAccess) : (s.access c).sp = s.sp := rfl
@[simp] theorem State.access_xp (c : IoAccess) : (s.access c).xp = s.xp := rfl
@[simp] theorem State.access_xh (c : IoAccess) : (s.access c).xh = s.xh := rfl
@[simp] theorem State.access_xl (c : IoAccess) : (s.access c).xl = s.xl := rfl
@[simp] theorem State.access_yp (c : IoAccess) : (s.access c).yp = s.yp := rfl
@[simp] theorem State.access_yh (c : IoAccess) : (s.access c).yh = s.yh := rfl
@[simp] theorem State.access_yl (c : IoAccess) : (s.access c).yl = s.yl := rfl
@[simp] theorem State.access_rp (c : IoAccess) : (s.access c).rp = s.rp := rfl
@[simp] theorem State.access_a (c : IoAccess) : (s.access c).a = s.a := rfl
@[simp] theorem State.access_b (c : IoAccess) : (s.access c).b = s.b := rfl
@[simp] theorem State.access_fi (c : IoAccess) : (s.access c).fi = s.fi := rfl
@[simp] theorem State.access_fd (c : IoAccess) : (s.access c).fd = s.fd := rfl
@[simp] theorem State.access_fz (c : IoAccess) : (s.access c).fz = s.fz := rfl
@[simp] theorem State.access_fc (c : IoAccess) : (s.access c).fc = s.fc := rfl
@[simp] theorem State.access_ram (c : IoAccess) : (s.access c).ram = s.ram := rfl
@[simp] theorem State.access_run (c : IoAccess) : (s.access c).run = s.run := rfl
@[simp] theorem State.access_afterPset (c : IoAccess) : (s.access c).afterPset = s.afterPset := rfl
@[simp] theorem State.access_eiDelay (c : IoAccess) : (s.access c).eiDelay = s.eiDelay := rfl
@[simp] theorem State.access_inputs (c : IoAccess) : (s.access c).inputs = s.inputs := rfl
@[simp] theorem State.access_dev (c : IoAccess) : (s.access c).dev = s.dev := rfl
@[simp] theorem State.access_ramEpoch (c : IoAccess) : (s.access c).ramEpoch = s.ramEpoch := rfl
@[simp] theorem State.access_draws (c : IoAccess) : (s.access c).draws = s.draws := rfl
@[simp] theorem State.access_clocks (c : IoAccess) : (s.access c).clocks = s.clocks := rfl

@[simp] theorem State.touch_pcb (a : Addr) : (s.touch a).pcb = s.pcb := by unfold State.touch; split <;> rfl
@[simp] theorem State.touch_pcp (a : Addr) : (s.touch a).pcp = s.pcp := by unfold State.touch; split <;> rfl
@[simp] theorem State.touch_pcs (a : Addr) : (s.touch a).pcs = s.pcs := by unfold State.touch; split <;> rfl
@[simp] theorem State.touch_nbp (a : Addr) : (s.touch a).nbp = s.nbp := by unfold State.touch; split <;> rfl
@[simp] theorem State.touch_npp (a : Addr) : (s.touch a).npp = s.npp := by unfold State.touch; split <;> rfl
@[simp] theorem State.touch_sp (a : Addr) : (s.touch a).sp = s.sp := by unfold State.touch; split <;> rfl
@[simp] theorem State.touch_xp (a : Addr) : (s.touch a).xp = s.xp := by unfold State.touch; split <;> rfl
@[simp] theorem State.touch_xh (a : Addr) : (s.touch a).xh = s.xh := by unfold State.touch; split <;> rfl
@[simp] theorem State.touch_xl (a : Addr) : (s.touch a).xl = s.xl := by unfold State.touch; split <;> rfl
@[simp] theorem State.touch_yp (a : Addr) : (s.touch a).yp = s.yp := by unfold State.touch; split <;> rfl
@[simp] theorem State.touch_yh (a : Addr) : (s.touch a).yh = s.yh := by unfold State.touch; split <;> rfl
@[simp] theorem State.touch_yl (a : Addr) : (s.touch a).yl = s.yl := by unfold State.touch; split <;> rfl
@[simp] theorem State.touch_rp (a : Addr) : (s.touch a).rp = s.rp := by unfold State.touch; split <;> rfl
@[simp] theorem State.touch_a (a : Addr) : (s.touch a).a = s.a := by unfold State.touch; split <;> rfl
@[simp] theorem State.touch_b (a : Addr) : (s.touch a).b = s.b := by unfold State.touch; split <;> rfl
@[simp] theorem State.touch_fi (a : Addr) : (s.touch a).fi = s.fi := by unfold State.touch; split <;> rfl
@[simp] theorem State.touch_fd (a : Addr) : (s.touch a).fd = s.fd := by unfold State.touch; split <;> rfl
@[simp] theorem State.touch_fz (a : Addr) : (s.touch a).fz = s.fz := by unfold State.touch; split <;> rfl
@[simp] theorem State.touch_fc (a : Addr) : (s.touch a).fc = s.fc := by unfold State.touch; split <;> rfl
@[simp] theorem State.touch_ram (a : Addr) : (s.touch a).ram = s.ram := by unfold State.touch; split <;> rfl
@[simp] theorem State.touch_run (a : Addr) : (s.touch a).run = s.run := by unfold State.touch; split <;> rfl
@[simp] theorem State.touch_afterPset (a : Addr) : (s.touch a).afterPset = s.afterPset := by unfold State.touch; split <;> rfl
@[simp] theorem State.touch_eiDelay (a : Addr) : (s.touch a).eiDelay = s.eiDelay := by unfold State.touch; split <;> rfl
@[simp] theorem State.touch_inputs (a : Addr) : (s.touch a).inputs = s.inputs := by unfold State.touch; split <;> rfl
@[simp] theorem State.touch_dev (a : Addr) : (s.touch a).dev = s.dev := by unfold State.touch; split <;> rfl
@[simp] theorem State.touch_ramEpoch (a : Addr) : (s.touch a).ramEpoch = s.ramEpoch := by unfold State.touch; split <;> rfl
@[simp] theorem State.touch_clocks (a : Addr) : (s.touch a).clocks = s.clocks := by unfold State.touch; split <;> rfl

@[simp] theorem State.store_pcb (a : Addr) (v : Nibble) : (s.store a v).pcb = s.pcb := by unfold State.store; split <;> rfl
@[simp] theorem State.store_pcp (a : Addr) (v : Nibble) : (s.store a v).pcp = s.pcp := by unfold State.store; split <;> rfl
@[simp] theorem State.store_pcs (a : Addr) (v : Nibble) : (s.store a v).pcs = s.pcs := by unfold State.store; split <;> rfl
@[simp] theorem State.store_nbp (a : Addr) (v : Nibble) : (s.store a v).nbp = s.nbp := by unfold State.store; split <;> rfl
@[simp] theorem State.store_npp (a : Addr) (v : Nibble) : (s.store a v).npp = s.npp := by unfold State.store; split <;> rfl
@[simp] theorem State.store_sp (a : Addr) (v : Nibble) : (s.store a v).sp = s.sp := by unfold State.store; split <;> rfl
@[simp] theorem State.store_xp (a : Addr) (v : Nibble) : (s.store a v).xp = s.xp := by unfold State.store; split <;> rfl
@[simp] theorem State.store_xh (a : Addr) (v : Nibble) : (s.store a v).xh = s.xh := by unfold State.store; split <;> rfl
@[simp] theorem State.store_xl (a : Addr) (v : Nibble) : (s.store a v).xl = s.xl := by unfold State.store; split <;> rfl
@[simp] theorem State.store_yp (a : Addr) (v : Nibble) : (s.store a v).yp = s.yp := by unfold State.store; split <;> rfl
@[simp] theorem State.store_yh (a : Addr) (v : Nibble) : (s.store a v).yh = s.yh := by unfold State.store; split <;> rfl
@[simp] theorem State.store_yl (a : Addr) (v : Nibble) : (s.store a v).yl = s.yl := by unfold State.store; split <;> rfl
@[simp] theorem State.store_rp (a : Addr) (v : Nibble) : (s.store a v).rp = s.rp := by unfold State.store; split <;> rfl
@[simp] theorem State.store_a (a : Addr) (v : Nibble) : (s.store a v).a = s.a := by unfold State.store; split <;> rfl
@[simp] theorem State.store_b (a : Addr) (v : Nibble) : (s.store a v).b = s.b := by unfold State.store; split <;> rfl
@[simp] theorem State.store_fi (a : Addr) (v : Nibble) : (s.store a v).fi = s.fi := by unfold State.store; split <;> rfl
@[simp] theorem State.store_fd (a : Addr) (v : Nibble) : (s.store a v).fd = s.fd := by unfold State.store; split <;> rfl
@[simp] theorem State.store_fz (a : Addr) (v : Nibble) : (s.store a v).fz = s.fz := by unfold State.store; split <;> rfl
@[simp] theorem State.store_fc (a : Addr) (v : Nibble) : (s.store a v).fc = s.fc := by unfold State.store; split <;> rfl
@[simp] theorem State.store_run (a : Addr) (v : Nibble) : (s.store a v).run = s.run := by unfold State.store; split <;> rfl
@[simp] theorem State.store_afterPset (a : Addr) (v : Nibble) : (s.store a v).afterPset = s.afterPset := by unfold State.store; split <;> rfl
@[simp] theorem State.store_eiDelay (a : Addr) (v : Nibble) : (s.store a v).eiDelay = s.eiDelay := by unfold State.store; split <;> rfl
@[simp] theorem State.store_inputs (a : Addr) (v : Nibble) : (s.store a v).inputs = s.inputs := by unfold State.store; split <;> rfl
@[simp] theorem State.store_dev (a : Addr) (v : Nibble) : (s.store a v).dev = s.dev := by unfold State.store; split <;> rfl
@[simp] theorem State.store_ramEpoch (a : Addr) (v : Nibble) : (s.store a v).ramEpoch = s.ramEpoch := by unfold State.store; split <;> rfl
@[simp] theorem State.store_draws (a : Addr) (v : Nibble) : (s.store a v).draws = s.draws := by unfold State.store; split <;> rfl
@[simp] theorem State.store_clocks (a : Addr) (v : Nibble) : (s.store a v).clocks = s.clocks := by unfold State.store; split <;> rfl

@[simp] theorem State.touchSel_pcb (r : Sel) : (s.touchSel r).pcb = s.pcb := by cases r <;> simp [State.touchSel]
@[simp] theorem State.touchSel_pcp (r : Sel) : (s.touchSel r).pcp = s.pcp := by cases r <;> simp [State.touchSel]
@[simp] theorem State.touchSel_pcs (r : Sel) : (s.touchSel r).pcs = s.pcs := by cases r <;> simp [State.touchSel]
@[simp] theorem State.touchSel_nbp (r : Sel) : (s.touchSel r).nbp = s.nbp := by cases r <;> simp [State.touchSel]
@[simp] theorem State.touchSel_npp (r : Sel) : (s.touchSel r).npp = s.npp := by cases r <;> simp [State.touchSel]
@[simp] theorem State.touchSel_sp (r : Sel) : (s.touchSel r).sp = s.sp := by cases r <;> simp [State.touchSel]
@[simp] theorem State.touchSel_xp (r : Sel) : (s.touchSel r).xp = s.xp := by cases r <;> simp [State.touchSel]
@[simp] theorem State.touchSel_xh (r : Sel) : (s.touchSel r).xh = s.xh := by cases r <;> simp [State.touchSel]
@[simp] theorem State.touchSel_xl (r : Sel) : (s.touchSel r).xl = s.xl := by cases r <;> simp [State.touchSel]
@[simp] theorem State.touchSel_yp (r : Sel) : (s.touchSel r).yp = s.yp := by cases r <;> simp [State.touchSel]
@[simp] theorem State.touchSel_yh (r : Sel) : (s.touchSel r).yh = s.yh := by cases r <;> simp [State.touchSel]
@[simp] theorem State.touchSel_yl (r : Sel) : (s.touchSel r).yl = s.yl := by cases r <;> simp [State.touchSel]
@[simp] theorem State.touchSel_rp (r : Sel) : (s.touchSel r).rp = s.rp := by cases r <;> simp [State.touchSel]
@[simp] theorem State.touchSel_a (r : Sel) : (s.touchSel r).a = s.a := by cases r <;> simp [State.touchSel]
@[simp] theorem State.touchSel_b (r : Sel) : (s.touchSel r).b = s.b := by cases r <;> simp [State.touchSel]
@[simp] theorem State.touchSel_fi (r : Sel) : (s.touchSel r).fi = s.fi := by cases r <;> simp [State.touchSel]
@[simp] theorem State.touchSel_fd (r : Sel) : (s.touchSel r).fd = s.fd := by cases r <;> simp [State.touchSel]
@[simp] theorem State.touchSel_fz (r : Sel) : (s.touchSel r).fz = s.fz := by cases r <;> simp [State.touchSel]
@[simp] theorem State.touchSel_fc (r : Sel) : (s.touchSel r).fc = s.fc := by cases r <;> simp [State.touchSel]
@[simp] theorem State.touchSel_ram (r : Sel) : (s.touchSel r).ram = s.ram := by cases r <;> simp [State.touchSel]
@[simp] theorem State.touchSel_run (r : Sel) : (s.touchSel r).run = s.run := by cases r <;> simp [State.touchSel]
@[simp] theorem State.touchSel_afterPset (r : Sel) : (s.touchSel r).afterPset = s.afterPset := by cases r <;> simp [State.touchSel]
@[simp] theorem State.touchSel_eiDelay (r : Sel) : (s.touchSel r).eiDelay = s.eiDelay := by cases r <;> simp [State.touchSel]
@[simp] theorem State.touchSel_inputs (r : Sel) : (s.touchSel r).inputs = s.inputs := by cases r <;> simp [State.touchSel]
@[simp] theorem State.touchSel_dev (r : Sel) : (s.touchSel r).dev = s.dev := by cases r <;> simp [State.touchSel]
@[simp] theorem State.touchSel_ramEpoch (r : Sel) : (s.touchSel r).ramEpoch = s.ramEpoch := by cases r <;> simp [State.touchSel]
@[simp] theorem State.touchSel_clocks (r : Sel) : (s.touchSel r).clocks = s.clocks := by cases r <;> simp [State.touchSel]

@[simp] theorem State.putSel_pcb (r : Sel) (v : Nibble) : (s.putSel r v).pcb = s.pcb := by cases r <;> simp [State.putSel]
@[simp] theorem State.putSel_pcp (r : Sel) (v : Nibble) : (s.putSel r v).pcp = s.pcp := by cases r <;> simp [State.putSel]
@[simp] theorem State.putSel_pcs (r : Sel) (v : Nibble) : (s.putSel r v).pcs = s.pcs := by cases r <;> simp [State.putSel]
@[simp] theorem State.putSel_nbp (r : Sel) (v : Nibble) : (s.putSel r v).nbp = s.nbp := by cases r <;> simp [State.putSel]
@[simp] theorem State.putSel_npp (r : Sel) (v : Nibble) : (s.putSel r v).npp = s.npp := by cases r <;> simp [State.putSel]
@[simp] theorem State.putSel_sp (r : Sel) (v : Nibble) : (s.putSel r v).sp = s.sp := by cases r <;> simp [State.putSel]
@[simp] theorem State.putSel_xp (r : Sel) (v : Nibble) : (s.putSel r v).xp = s.xp := by cases r <;> simp [State.putSel]
@[simp] theorem State.putSel_xh (r : Sel) (v : Nibble) : (s.putSel r v).xh = s.xh := by cases r <;> simp [State.putSel]
@[simp] theorem State.putSel_xl (r : Sel) (v : Nibble) : (s.putSel r v).xl = s.xl := by cases r <;> simp [State.putSel]
@[simp] theorem State.putSel_yp (r : Sel) (v : Nibble) : (s.putSel r v).yp = s.yp := by cases r <;> simp [State.putSel]
@[simp] theorem State.putSel_yh (r : Sel) (v : Nibble) : (s.putSel r v).yh = s.yh := by cases r <;> simp [State.putSel]
@[simp] theorem State.putSel_yl (r : Sel) (v : Nibble) : (s.putSel r v).yl = s.yl := by cases r <;> simp [State.putSel]
@[simp] theorem State.putSel_rp (r : Sel) (v : Nibble) : (s.putSel r v).rp = s.rp := by cases r <;> simp [State.putSel]
@[simp] theorem State.putSel_fi (r : Sel) (v : Nibble) : (s.putSel r v).fi = s.fi := by cases r <;> simp [State.putSel]
@[simp] theorem State.putSel_fd (r : Sel) (v : Nibble) : (s.putSel r v).fd = s.fd := by cases r <;> simp [State.putSel]
@[simp] theorem State.putSel_fz (r : Sel) (v : Nibble) : (s.putSel r v).fz = s.fz := by cases r <;> simp [State.putSel]
@[simp] theorem State.putSel_fc (r : Sel) (v : Nibble) : (s.putSel r v).fc = s.fc := by cases r <;> simp [State.putSel]
@[simp] theorem State.putSel_run (r : Sel) (v : Nibble) : (s.putSel r v).run = s.run := by cases r <;> simp [State.putSel]
@[simp] theorem State.putSel_afterPset (r : Sel) (v : Nibble) : (s.putSel r v).afterPset = s.afterPset := by cases r <;> simp [State.putSel]
@[simp] theorem State.putSel_eiDelay (r : Sel) (v : Nibble) : (s.putSel r v).eiDelay = s.eiDelay := by cases r <;> simp [State.putSel]
@[simp] theorem State.putSel_inputs (r : Sel) (v : Nibble) : (s.putSel r v).inputs = s.inputs := by cases r <;> simp [State.putSel]
@[simp] theorem State.putSel_dev (r : Sel) (v : Nibble) : (s.putSel r v).dev = s.dev := by cases r <;> simp [State.putSel]
@[simp] theorem State.putSel_ramEpoch (r : Sel) (v : Nibble) : (s.putSel r v).ramEpoch = s.ramEpoch := by cases r <;> simp [State.putSel]
@[simp] theorem State.putSel_draws (r : Sel) (v : Nibble) : (s.putSel r v).draws = s.draws := by cases r <;> simp [State.putSel]
@[simp] theorem State.putSel_clocks (r : Sel) (v : Nibble) : (s.putSel r v).clocks = s.clocks := by cases r <;> simp [State.putSel]

end Sys2Proof.Machine
end

