-- ==== Sys2Proof/Laws/Present.lean ====
section
/-! SUPPORT. No operation changes what is behind a data address: the kind of every address is the device's. None but a write changes
what a RAM word holds. -/

namespace Sys2Proof.Machine

open Sys2Proof.Config

variable (s : State)

@[simp] theorem State.setPC_kindAt (bk : Bit) (pg : Nibble) (st : Byte) (a : Addr) : (s.setPC bk pg st).kindAt a = s.kindAt a := by simp [State.kindAt]
@[simp] theorem State.setPC_present (bk : Bit) (pg : Nibble) (st : Byte) (a : Addr) : (s.setPC bk pg st).present a = s.present a := by simp [State.present]
@[simp] theorem State.setPC_ramWord (bk : Bit) (pg : Nibble) (st : Byte) (a : Addr) : (s.setPC bk pg st).ramWord a = s.ramWord a := by simp [State.ramWord]
@[simp] theorem State.setNext_kindAt (bk : Bit) (pg : Nibble) (a : Addr) : (s.setNext bk pg).kindAt a = s.kindAt a := by simp [State.kindAt]
@[simp] theorem State.setNext_present (bk : Bit) (pg : Nibble) (a : Addr) : (s.setNext bk pg).present a = s.present a := by simp [State.present]
@[simp] theorem State.setNext_ramWord (bk : Bit) (pg : Nibble) (a : Addr) : (s.setNext bk pg).ramWord a = s.ramWord a := by simp [State.ramWord]
@[simp] theorem State.setSP_kindAt (v : Byte) (a : Addr) : (s.setSP v).kindAt a = s.kindAt a := by simp [State.kindAt]
@[simp] theorem State.setSP_present (v : Byte) (a : Addr) : (s.setSP v).present a = s.present a := by simp [State.present]
@[simp] theorem State.setSP_ramWord (v : Byte) (a : Addr) : (s.setSP v).ramWord a = s.ramWord a := by simp [State.ramWord]
@[simp] theorem State.setXP_kindAt (v : Nibble) (a : Addr) : (s.setXP v).kindAt a = s.kindAt a := by simp [State.kindAt]
@[simp] theorem State.setXP_present (v : Nibble) (a : Addr) : (s.setXP v).present a = s.present a := by simp [State.present]
@[simp] theorem State.setXP_ramWord (v : Nibble) (a : Addr) : (s.setXP v).ramWord a = s.ramWord a := by simp [State.ramWord]
@[simp] theorem State.setXH_kindAt (v : Nibble) (a : Addr) : (s.setXH v).kindAt a = s.kindAt a := by simp [State.kindAt]
@[simp] theorem State.setXH_present (v : Nibble) (a : Addr) : (s.setXH v).present a = s.present a := by simp [State.present]
@[simp] theorem State.setXH_ramWord (v : Nibble) (a : Addr) : (s.setXH v).ramWord a = s.ramWord a := by simp [State.ramWord]
@[simp] theorem State.setXL_kindAt (v : Nibble) (a : Addr) : (s.setXL v).kindAt a = s.kindAt a := by simp [State.kindAt]
@[simp] theorem State.setXL_present (v : Nibble) (a : Addr) : (s.setXL v).present a = s.present a := by simp [State.present]
@[simp] theorem State.setXL_ramWord (v : Nibble) (a : Addr) : (s.setXL v).ramWord a = s.ramWord a := by simp [State.ramWord]
@[simp] theorem State.setYP_kindAt (v : Nibble) (a : Addr) : (s.setYP v).kindAt a = s.kindAt a := by simp [State.kindAt]
@[simp] theorem State.setYP_present (v : Nibble) (a : Addr) : (s.setYP v).present a = s.present a := by simp [State.present]
@[simp] theorem State.setYP_ramWord (v : Nibble) (a : Addr) : (s.setYP v).ramWord a = s.ramWord a := by simp [State.ramWord]
@[simp] theorem State.setYH_kindAt (v : Nibble) (a : Addr) : (s.setYH v).kindAt a = s.kindAt a := by simp [State.kindAt]
@[simp] theorem State.setYH_present (v : Nibble) (a : Addr) : (s.setYH v).present a = s.present a := by simp [State.present]
@[simp] theorem State.setYH_ramWord (v : Nibble) (a : Addr) : (s.setYH v).ramWord a = s.ramWord a := by simp [State.ramWord]
@[simp] theorem State.setYL_kindAt (v : Nibble) (a : Addr) : (s.setYL v).kindAt a = s.kindAt a := by simp [State.kindAt]
@[simp] theorem State.setYL_present (v : Nibble) (a : Addr) : (s.setYL v).present a = s.present a := by simp [State.present]
@[simp] theorem State.setYL_ramWord (v : Nibble) (a : Addr) : (s.setYL v).ramWord a = s.ramWord a := by simp [State.ramWord]
@[simp] theorem State.setRP_kindAt (v : Nibble) (a : Addr) : (s.setRP v).kindAt a = s.kindAt a := by simp [State.kindAt]
@[simp] theorem State.setRP_present (v : Nibble) (a : Addr) : (s.setRP v).present a = s.present a := by simp [State.present]
@[simp] theorem State.setRP_ramWord (v : Nibble) (a : Addr) : (s.setRP v).ramWord a = s.ramWord a := by simp [State.ramWord]
@[simp] theorem State.setA_kindAt (v : Nibble) (a : Addr) : (s.setA v).kindAt a = s.kindAt a := by simp [State.kindAt]
@[simp] theorem State.setA_present (v : Nibble) (a : Addr) : (s.setA v).present a = s.present a := by simp [State.present]
@[simp] theorem State.setA_ramWord (v : Nibble) (a : Addr) : (s.setA v).ramWord a = s.ramWord a := by simp [State.ramWord]
@[simp] theorem State.setB_kindAt (v : Nibble) (a : Addr) : (s.setB v).kindAt a = s.kindAt a := by simp [State.kindAt]
@[simp] theorem State.setB_present (v : Nibble) (a : Addr) : (s.setB v).present a = s.present a := by simp [State.present]
@[simp] theorem State.setB_ramWord (v : Nibble) (a : Addr) : (s.setB v).ramWord a = s.ramWord a := by simp [State.ramWord]
@[simp] theorem State.setI_kindAt (v : Bool) (a : Addr) : (s.setI v).kindAt a = s.kindAt a := by simp [State.kindAt]
@[simp] theorem State.setI_present (v : Bool) (a : Addr) : (s.setI v).present a = s.present a := by simp [State.present]
@[simp] theorem State.setI_ramWord (v : Bool) (a : Addr) : (s.setI v).ramWord a = s.ramWord a := by simp [State.ramWord]
@[simp] theorem State.setD_kindAt (v : Bool) (a : Addr) : (s.setD v).kindAt a = s.kindAt a := by simp [State.kindAt]
@[simp] theorem State.setD_present (v : Bool) (a : Addr) : (s.setD v).present a = s.present a := by simp [State.present]
@[simp] theorem State.setD_ramWord (v : Bool) (a : Addr) : (s.setD v).ramWord a = s.ramWord a := by simp [State.ramWord]
@[simp] theorem State.setZ_kindAt (v : Bool) (a : Addr) : (s.setZ v).kindAt a = s.kindAt a := by simp [State.kindAt]
@[simp] theorem State.setZ_present (v : Bool) (a : Addr) : (s.setZ v).present a = s.present a := by simp [State.present]
@[simp] theorem State.setZ_ramWord (v : Bool) (a : Addr) : (s.setZ v).ramWord a = s.ramWord a := by simp [State.ramWord]
@[simp] theorem State.setC_kindAt (v : Bool) (a : Addr) : (s.setC v).kindAt a = s.kindAt a := by simp [State.kindAt]
@[simp] theorem State.setC_present (v : Bool) (a : Addr) : (s.setC v).present a = s.present a := by simp [State.present]
@[simp] theorem State.setC_ramWord (v : Bool) (a : Addr) : (s.setC v).ramWord a = s.ramWord a := by simp [State.ramWord]
@[simp] theorem State.setRam_kindAt (m : Memory) (a : Addr) : (s.setRam m).kindAt a = s.kindAt a := by simp [State.kindAt]
@[simp] theorem State.setRam_present (m : Memory) (a : Addr) : (s.setRam m).present a = s.present a := by simp [State.present]
@[simp] theorem State.setRun_kindAt (v : RunState) (a : Addr) : (s.setRun v).kindAt a = s.kindAt a := by simp [State.kindAt]
@[simp] theorem State.setRun_present (v : RunState) (a : Addr) : (s.setRun v).present a = s.present a := by simp [State.present]
@[simp] theorem State.setRun_ramWord (v : RunState) (a : Addr) : (s.setRun v).ramWord a = s.ramWord a := by simp [State.ramWord]
@[simp] theorem State.setHidden_kindAt (ap ei : Bool) (a : Addr) : (s.setHidden ap ei).kindAt a = s.kindAt a := by simp [State.kindAt]
@[simp] theorem State.setHidden_present (ap ei : Bool) (a : Addr) : (s.setHidden ap ei).present a = s.present a := by simp [State.present]
@[simp] theorem State.setHidden_ramWord (ap ei : Bool) (a : Addr) : (s.setHidden ap ei).ramWord a = s.ramWord a := by simp [State.ramWord]
@[simp] theorem State.setInputs_kindAt (l : List Input) (a : Addr) : (s.setInputs l).kindAt a = s.kindAt a := by simp [State.kindAt]
@[simp] theorem State.setInputs_present (l : List Input) (a : Addr) : (s.setInputs l).present a = s.present a := by simp [State.present]
@[simp] theorem State.setInputs_ramWord (l : List Input) (a : Addr) : (s.setInputs l).ramWord a = s.ramWord a := by simp [State.ramWord]
@[simp] theorem State.setIoRegs_kindAt (m : Memory) (a : Addr) : (s.setIoRegs m).kindAt a = s.kindAt a := by simp [State.kindAt]
@[simp] theorem State.setIoRegs_present (m : Memory) (a : Addr) : (s.setIoRegs m).present a = s.present a := by simp [State.present]
@[simp] theorem State.setIoRegs_ramWord (m : Memory) (a : Addr) : (s.setIoRegs m).ramWord a = s.ramWord a := by simp [State.ramWord]
@[simp] theorem State.setIoTrace_kindAt (l : List IoAccess) (a : Addr) : (s.setIoTrace l).kindAt a = s.kindAt a := by simp [State.kindAt]
@[simp] theorem State.setIoTrace_present (l : List IoAccess) (a : Addr) : (s.setIoTrace l).present a = s.present a := by simp [State.present]
@[simp] theorem State.setIoTrace_ramWord (l : List IoAccess) (a : Addr) : (s.setIoTrace l).ramWord a = s.ramWord a := by simp [State.ramWord]
@[simp] theorem State.access_kindAt (c : IoAccess) (a : Addr) : (s.access c).kindAt a = s.kindAt a := by simp [State.kindAt]
@[simp] theorem State.access_present (c : IoAccess) (a : Addr) : (s.access c).present a = s.present a := by simp [State.present]
@[simp] theorem State.access_ramWord (c : IoAccess) (a : Addr) : (s.access c).ramWord a = s.ramWord a := by simp [State.ramWord]
@[simp] theorem State.setDraws_kindAt (n : Nat) (a : Addr) : (s.setDraws n).kindAt a = s.kindAt a := by simp [State.kindAt]
@[simp] theorem State.setDraws_present (n : Nat) (a : Addr) : (s.setDraws n).present a = s.present a := by simp [State.present]
@[simp] theorem State.setDraws_ramWord (n : Nat) (a : Addr) : (s.setDraws n).ramWord a = s.ramWord a := by simp [State.ramWord]
@[simp] theorem State.setClocks_kindAt (n : Nat) (a : Addr) : (s.setClocks n).kindAt a = s.kindAt a := by simp [State.kindAt]
@[simp] theorem State.setClocks_present (n : Nat) (a : Addr) : (s.setClocks n).present a = s.present a := by simp [State.present]
@[simp] theorem State.setClocks_ramWord (n : Nat) (a : Addr) : (s.setClocks n).ramWord a = s.ramWord a := by simp [State.ramWord]
@[simp] theorem State.setX_kindAt (v : Byte) (a : Addr) : (s.setX v).kindAt a = s.kindAt a := by simp [State.kindAt]
@[simp] theorem State.setX_present (v : Byte) (a : Addr) : (s.setX v).present a = s.present a := by simp [State.present]
@[simp] theorem State.setX_ramWord (v : Byte) (a : Addr) : (s.setX v).ramWord a = s.ramWord a := by simp [State.ramWord]
@[simp] theorem State.setY_kindAt (v : Byte) (a : Addr) : (s.setY v).kindAt a = s.kindAt a := by simp [State.kindAt]
@[simp] theorem State.setY_present (v : Byte) (a : Addr) : (s.setY v).present a = s.present a := by simp [State.present]
@[simp] theorem State.setY_ramWord (v : Byte) (a : Addr) : (s.setY v).ramWord a = s.ramWord a := by simp [State.ramWord]
@[simp] theorem State.incX_kindAt (k : Byte) (a : Addr) : (s.incX k).kindAt a = s.kindAt a := by simp [State.kindAt]
@[simp] theorem State.incX_present (k : Byte) (a : Addr) : (s.incX k).present a = s.present a := by simp [State.present]
@[simp] theorem State.incX_ramWord (k : Byte) (a : Addr) : (s.incX k).ramWord a = s.ramWord a := by simp [State.ramWord]
@[simp] theorem State.incY_kindAt (k : Byte) (a : Addr) : (s.incY k).kindAt a = s.kindAt a := by simp [State.kindAt]
@[simp] theorem State.incY_present (k : Byte) (a : Addr) : (s.incY k).present a = s.present a := by simp [State.present]
@[simp] theorem State.incY_ramWord (k : Byte) (a : Addr) : (s.incY k).ramWord a = s.ramWord a := by simp [State.ramWord]
@[simp] theorem State.setF_kindAt (v : Nibble) (a : Addr) : (s.setF v).kindAt a = s.kindAt a := by simp [State.kindAt]
@[simp] theorem State.setF_present (v : Nibble) (a : Addr) : (s.setF v).present a = s.present a := by simp [State.present]
@[simp] theorem State.setF_ramWord (v : Nibble) (a : Addr) : (s.setF v).ramWord a = s.ramWord a := by simp [State.ramWord]
@[simp] theorem State.setCounter_kindAt (v : BitVec 12) (a : Addr) : (s.setCounter v).kindAt a = s.kindAt a := by simp [State.kindAt]
@[simp] theorem State.setCounter_present (v : BitVec 12) (a : Addr) : (s.setCounter v).present a = s.present a := by simp [State.present]
@[simp] theorem State.setCounter_ramWord (v : BitVec 12) (a : Addr) : (s.setCounter v).ramWord a = s.ramWord a := by simp [State.ramWord]
@[simp] theorem State.advance_kindAt (a : Addr) : (s.advance).kindAt a = s.kindAt a := by simp [State.kindAt]
@[simp] theorem State.advance_present (a : Addr) : (s.advance).present a = s.present a := by simp [State.present]
@[simp] theorem State.advance_ramWord (a : Addr) : (s.advance).ramWord a = s.ramWord a := by simp [State.ramWord]
@[simp] theorem State.jumpTo_kindAt (d : Byte) (a : Addr) : (s.jumpTo d).kindAt a = s.kindAt a := by simp [State.kindAt]
@[simp] theorem State.jumpTo_present (d : Byte) (a : Addr) : (s.jumpTo d).present a = s.present a := by simp [State.present]
@[simp] theorem State.jumpTo_ramWord (d : Byte) (a : Addr) : (s.jumpTo d).ramWord a = s.ramWord a := by simp [State.ramWord]
@[simp] theorem State.setAlu_kindAt (o : AluOut) (a : Addr) : (s.setAlu o).kindAt a = s.kindAt a := by simp [State.kindAt]
@[simp] theorem State.setAlu_present (o : AluOut) (a : Addr) : (s.setAlu o).present a = s.present a := by simp [State.present]
@[simp] theorem State.setAlu_ramWord (o : AluOut) (a : Addr) : (s.setAlu o).ramWord a = s.ramWord a := by simp [State.ramWord]
@[simp] theorem State.orFlags_kindAt (i : Nibble) (a : Addr) : (s.orFlags i).kindAt a = s.kindAt a := by simp [State.kindAt]
@[simp] theorem State.orFlags_present (i : Nibble) (a : Addr) : (s.orFlags i).present a = s.present a := by simp [State.present]
@[simp] theorem State.orFlags_ramWord (i : Nibble) (a : Addr) : (s.orFlags i).ramWord a = s.ramWord a := by simp [State.ramWord]
@[simp] theorem State.andFlags_kindAt (i : Nibble) (a : Addr) : (s.andFlags i).kindAt a = s.kindAt a := by simp [State.kindAt]
@[simp] theorem State.andFlags_present (i : Nibble) (a : Addr) : (s.andFlags i).present a = s.present a := by simp [State.present]
@[simp] theorem State.andFlags_ramWord (i : Nibble) (a : Addr) : (s.andFlags i).ramWord a = s.ramWord a := by simp [State.ramWord]
@[simp] theorem State.rotateZ_kindAt (v : Nibble) (a : Addr) : (s.rotateZ v).kindAt a = s.kindAt a := by simp [State.kindAt]
@[simp] theorem State.rotateZ_present (v : Nibble) (a : Addr) : (s.rotateZ v).present a = s.present a := by simp [State.present]
@[simp] theorem State.rotateZ_ramWord (v : Nibble) (a : Addr) : (s.rotateZ v).ramWord a = s.ramWord a := by simp [State.ramWord]
@[simp] theorem State.touch_kindAt (c : Addr) (a : Addr) : (s.touch c).kindAt a = s.kindAt a := by simp [State.kindAt]
@[simp] theorem State.touch_present (c : Addr) (a : Addr) : (s.touch c).present a = s.present a := by simp [State.present]
@[simp] theorem State.touch_ramWord (c : Addr) (a : Addr) : (s.touch c).ramWord a = s.ramWord a := by simp [State.ramWord]
@[simp] theorem State.store_kindAt (c : Addr) (v : Nibble) (a : Addr) : (s.store c v).kindAt a = s.kindAt a := by simp [State.kindAt]
@[simp] theorem State.store_present (c : Addr) (v : Nibble) (a : Addr) : (s.store c v).present a = s.present a := by simp [State.present]
@[simp] theorem State.touchSel_kindAt (r : Sel) (a : Addr) : (s.touchSel r).kindAt a = s.kindAt a := by simp [State.kindAt]
@[simp] theorem State.touchSel_present (r : Sel) (a : Addr) : (s.touchSel r).present a = s.present a := by simp [State.present]
@[simp] theorem State.touchSel_ramWord (r : Sel) (a : Addr) : (s.touchSel r).ramWord a = s.ramWord a := by simp [State.ramWord]
@[simp] theorem State.putSel_kindAt (r : Sel) (v : Nibble) (a : Addr) : (s.putSel r v).kindAt a = s.kindAt a := by simp [State.kindAt]
@[simp] theorem State.putSel_present (r : Sel) (v : Nibble) (a : Addr) : (s.putSel r v).present a = s.present a := by simp [State.present]

end Sys2Proof.Machine
end

