-- ==== Sys2Proof/Laws/Memory.lean ====
section
/-! SUPPORT. Lists of cells: read after write, and the canonical form. -/

namespace Sys2Proof.Machine

open Sys2Proof.Config

section Cells

variable {w : Nat}

/-- Reading the written address gives the written value; every other address reads as before. -/
theorem Cells.lookup_insert (m : List (Nat × BitVec w)) (a : Nat) (v : BitVec w) (c : Nat) :
    Cells.lookup (Cells.insert m a v) c = if a = c then some v else Cells.lookup m c := by
  induction m with
  | nil => simp [Cells.insert, Cells.lookup]
  | cons p m ih =>
    obtain ⟨b, u⟩ := p
    unfold Cells.insert
    split
    · simp [Cells.lookup]
    · split
      · subst_vars; simp only [Cells.lookup]; split <;> simp_all
      · simp only [Cells.lookup, ih]; split
        · rename_i h1 h2 h3; subst h3; simp [h2]
        · rfl

/-- A list below a bound `lo` is also below any smaller one. -/
theorem Cells.rising_mono {m : List (Nat × BitVec w)} {lo lo' hi : Nat} (h : Cells.rising m lo hi = true)
    (hl : lo' ≤ lo) : Cells.rising m lo' hi = true := by
  cases m with
  | nil => rfl
  | cons p m =>
    simp only [Cells.rising, Bool.and_eq_true, decide_eq_true_eq] at h ⊢
    exact ⟨⟨by omega, h.1.2⟩, h.2⟩

/-- Inserting an address within the bounds keeps the canonical form. -/
theorem Cells.rising_insert {m : List (Nat × BitVec w)} {lo hi a : Nat} {v : BitVec w}
    (h : Cells.rising m lo hi = true) (h1 : lo ≤ a) (h2 : a < hi) :
    Cells.rising (Cells.insert m a v) lo hi = true := by
  induction m generalizing lo with
  | nil => simp [Cells.insert, Cells.rising, h1, h2]
  | cons p m ih =>
    obtain ⟨b, u⟩ := p
    simp only [Cells.rising, Bool.and_eq_true, decide_eq_true_eq] at h
    unfold Cells.insert
    split
    · simp only [Cells.rising, Bool.and_eq_true, decide_eq_true_eq]; refine ⟨⟨h1, h2⟩, ⟨by omega, h.1.2⟩, h.2⟩
    · split
      · subst_vars; simp only [Cells.rising, Bool.and_eq_true, decide_eq_true_eq]; exact h
      · simp only [Cells.rising, Bool.and_eq_true, decide_eq_true_eq]
        exact ⟨h.1, ih h.2 (by omega)⟩

end Cells

/-- Writing a data word keeps data memory canonical. -/
theorem Memory.wf_insert {m : Memory} (h : Memory.wf m = true) (a : Addr) (v : Nibble) :
    Memory.wf (Cells.insert m a.toNat v) = true :=
  Cells.rising_insert h (Nat.zero_le _) a.isLt

/-- Loading a program word keeps program memory canonical. -/
theorem Program.wf_insert {m : List (Nat × Word)} (h : Program.wf m = true) (a : ProgAddr) (w : Word) :
    Program.wf (Cells.insert m a.toNat w) = true :=
  Cells.rising_insert h (Nat.zero_le _) a.isLt

/-- A store keeps data memory canonical. -/
theorem State.store_ram_wf {s : State} (h : Memory.wf s.ram = true) (a : Addr) (v : Nibble) :
    Memory.wf (s.store a v).ram = true := by
  unfold State.store
  split <;> simp only [State.setRam_ram, State.access_ram, h, Memory.wf_insert h]

/-- A write to a RAM word is read back; every other word reads as before. -/
theorem State.store_ramWord {s : State} {a : Addr} (h : s.kindAt a = .ram) (v : Nibble) (c : Addr) :
    (s.store a v).ramWord c = if a = c then v else s.ramWord c := by
  simp only [State.ramWord, State.store, h, State.setRam_ram, State.setRam_ramEpoch, Cells.lookup_insert]
  by_cases hc : a = c
  · simp [hc]
  · have : a.toNat ≠ c.toNat := fun h => hc (BitVec.eq_of_toNat_eq h)
    simp [hc, this]

/-- Whatever is at `a`, a write to it leaves every other RAM word as it was. -/
theorem State.store_ramWord_other (s : State) {a c : Addr} (h : a ≠ c) (v : Nibble) :
    (s.store a v).ramWord c = s.ramWord c := by
  have : a.toNat ≠ c.toNat := fun h' => h (BitVec.eq_of_toNat_eq h')
  unfold State.store
  split <;> simp [State.ramWord, Cells.lookup_insert, this]

/-- A register just given a value holds it; every other holds what it held. -/
theorem ioHeld_insert (m : Memory) (a : Addr) (v : Nibble) (c : Addr) :
    ioHeld (Cells.insert m a.toNat v) c = if a = c then v else ioHeld m c := by
  unfold ioHeld
  rw [Cells.lookup_insert]
  by_cases hc : a = c
  · simp [hc]
  · have : a.toNat ≠ c.toNat := fun h => hc (BitVec.eq_of_toNat_eq h)
    simp [hc, this]

/-- Effects on the peripheral registers keep their list canonical. -/
theorem ioEffects_wf (v : Nibble) (l : List IoEffect) {m : Memory} (h : Memory.wf m = true) :
    Memory.wf (l.foldl (ioEffect v) m) = true := by
  induction l generalizing m with
  | nil => exact h
  | cons e l ih => exact ih (Memory.wf_insert h e.addr _)

/-- An I/O access keeps the list of peripheral registers canonical. -/
theorem ioAfter_wf (io : Peripherals) (c : IoAccess) {m : Memory} (h : Memory.wf m = true) :
    Memory.wf (ioAfter io c m) = true := by
  unfold ioAfter
  split
  · exact ioEffects_wf _ _ h
  · exact h

/-- What an access does to a register it has no effect on: nothing. -/
theorem ioEffects_held_other (v : Nibble) (l : List IoEffect) (m : Memory) {a : Addr} (h : ∀ e ∈ l, e.addr ≠ a) :
    ioHeld (l.foldl (ioEffect v) m) a = ioHeld m a := by
  induction l generalizing m with
  | nil => rfl
  | cons e l ih =>
    rw [List.foldl_cons, ih _ fun e he => h e (List.mem_cons_of_mem _ he)]
    unfold ioEffect
    rw [ioHeld_insert, if_neg (h e List.mem_cons_self)]

/-- The bits of four Bools set side by side. -/
theorem four_bits : ∀ b3 b2 b1 b0 : Bool,
    let v : Nibble := BitVec.ofBool b3 ++ BitVec.ofBool b2 ++ BitVec.ofBool b1 ++ BitVec.ofBool b0
    v.getLsbD 0 = b0 ∧ v.getLsbD 1 = b1 ∧ v.getLsbD 2 = b2 ∧ v.getLsbD 3 = b3 := by decide

/-- The bits picked are those held where known, those from outside elsewhere. -/
theorem pickBits_getLsbD (known held outside : Nibble) (j : Nat) (h : j < 4) :
    (pickBits known held outside).getLsbD j = if known.getLsbD j then held.getLsbD j else outside.getLsbD j := by
  have f := four_bits (if known.getLsbD 3 then held.getLsbD 3 else outside.getLsbD 3)
    (if known.getLsbD 2 then held.getLsbD 2 else outside.getLsbD 2)
    (if known.getLsbD 1 then held.getLsbD 1 else outside.getLsbD 1)
    (if known.getLsbD 0 then held.getLsbD 0 else outside.getLsbD 0)
  rcases (by omega : j = 0 ∨ j = 1 ∨ j = 2 ∨ j = 3) with rfl | rfl | rfl | rfl
  exacts [f.1, f.2.1, f.2.2.1, f.2.2.2]

/-- With every bit known, the word held. -/
@[simp] theorem pickBits_all (held outside : Nibble) : pickBits 15#4 held outside = held := by
  apply BitVec.eq_of_getLsbD_eq
  intro j hj
  rw [pickBits_getLsbD _ _ _ _ hj]
  rcases (by omega : j = 0 ∨ j = 1 ∨ j = 2 ∨ j = 3) with rfl | rfl | rfl | rfl <;> rfl

@[simp] theorem State.access_ioRegs (s : State) (c : IoAccess) :
    (s.access c).ioRegs = ioAfter s.dev.io c s.ioRegs := rfl
@[simp] theorem State.access_ioTrace (s : State) (c : IoAccess) : (s.access c).ioTrace = c :: s.ioTrace := rfl

/-- A store keeps the list of peripheral registers canonical. -/
theorem State.store_ioRegs_wf {s : State} (h : Memory.wf s.ioRegs = true) (a : Addr) (v : Nibble) :
    Memory.wf (s.store a v).ioRegs = true := by
  unfold State.store
  split
  · exact h
  · exact ioAfter_wf _ _ h
  · exact h

/-- A read keeps the list of peripheral registers canonical. -/
theorem State.touch_ioRegs_wf {s : State} (h : Memory.wf s.ioRegs = true) (a : Addr) :
    Memory.wf (s.touch a).ioRegs = true := by
  unfold State.touch
  split
  · exact ioAfter_wf _ _ h
  · exact h
  · exact h

/-- What `RAM_MAP` says depends on the device only. -/
theorem State.kindAt_of_dev {s t : State} (h : s.dev = t.dev) (a : Addr) : s.kindAt a = t.kindAt a := by
  simp [State.kindAt, h]

/-- Whether something answers at an address depends on the device only. -/
theorem State.present_of_dev {s t : State} (h : s.dev = t.dev) (a : Addr) : s.present a = t.present a := by
  simp [State.present, State.kindAt_of_dev h]

end Sys2Proof.Machine
end

