-- ==== Sys2Proof/Laws/Ops.lean ====
section
/-! SUPPORT. For each shared operation, one lemma that says once when it answers and what it answers: the lemmas to cite
instead of unfolding the operation. -/

namespace Sys2Proof.Machine

open Sys2Proof.Config

/-! ## Sequencing and completion -/

/-- A sequence answers exactly where both its parts do. -/
theorem bind_eq_ok {α β : Type} {m : Except Fault α} {k : α → Except Fault β} {b : β} :
    (m >>= k) = .ok b ↔ ∃ a, m = .ok a ∧ k a = .ok b := by
  cases m with
  | ok a => exact ⟨fun h => ⟨a, rfl, h⟩, fun ⟨_, h1, h2⟩ => by cases h1; exact h2⟩
  | error f => exact ⟨fun h => (nomatch h), fun ⟨_, h1, _⟩ => (nomatch h1)⟩

/-- A sequence stops where its first part stops, or where that answers and the second part stops. -/
theorem bind_eq_error {α β : Type} {m : Except Fault α} {k : α → Except Fault β} {f : Fault} :
    (m >>= k) = .error f ↔ m = .error f ∨ ∃ a, m = .ok a ∧ k a = .error f := by
  cases m with
  | ok a => exact ⟨fun h => .inr ⟨a, rfl, h⟩, fun h => h.elim (fun h => (nomatch h)) fun ⟨_, h1, h2⟩ => by cases h1; exact h2⟩
  | error g =>
    refine ⟨fun h => .inl ?_, fun h => h.elim (fun h => ?_) fun ⟨_, h1, _⟩ => (nomatch h1)⟩
    · cases h; rfl
    · cases h; rfl

/-- An answer is the one answer. -/
theorem ok_eq_ok {α : Type} {a b : α} : (Except.ok a : Except Fault α) = .ok b ↔ b = a := by
  constructor
  · intro h; cases h; rfl
  · intro h; rw [h]

/-- A stop is the one stop. -/
theorem error_eq_error {α : Type} {f g : Fault} : (Except.error f : Except Fault α) = .error g ↔ g = f := by
  constructor
  · intro h; cases h; rfl
  · intro h; rw [h]

/-- A sequence whose first part answers goes on with its answer. -/
theorem ok_bind {α β : Type} (a : α) (k : α → Except Fault β) : ((Except.ok a : Except Fault α) >>= k) = k a := rfl

/-- A sequence whose first part stops, stops. -/
theorem error_bind {α β : Type} (f : Fault) (k : α → Except Fault β) :
    ((Except.error f : Except Fault α) >>= k) = .error f := rfl

/-- A meaning completes exactly where its operations answer. -/
theorem complete_eq_next {r : Except Fault State} {t : State} : complete r = .next t ↔ r = .ok t := by
  cases r <;> simp [complete]

/-- A meaning faults exactly where its operations stop. -/
theorem complete_eq_fault {r : Except Fault State} {f : Fault} : complete r = .fault f ↔ r = .error f := by
  cases r <;> simp [complete]

/-- No meaning refuses. -/
theorem complete_ne_refused (r : Except Fault State) (q : Refusal) : complete r ≠ .refused q := by
  cases r <;> simp [complete]

/-! ## Data memory -/

/-- A read answers where something is behind the address: the word there, and the state after the access. -/
theorem memRead_eq_ok {a : Addr} {s : State} {p : Nibble × State} :
    memRead a s = .ok p ↔ s.present a = true ∧ p = (s.word a, s.touch a) := by
  unfold memRead; split <;> simp_all [ok_eq_ok, -Except.ok.injEq]

/-- A read stops where nothing is behind the address. -/
theorem memRead_eq_error {a : Addr} {s : State} {f : Fault} :
    memRead a s = .error f ↔ s.present a = false ∧ f = .absentDataAddress a := by
  unfold memRead; split <;> simp_all [error_eq_error, -Except.error.injEq]

/-- A write answers where something is behind the address. -/
theorem memWrite_eq_ok {a : Addr} {v : Nibble} {s t : State} :
    memWrite a v s = .ok t ↔ s.present a = true ∧ t = s.store a v := by
  unfold memWrite; split <;> simp_all [ok_eq_ok, -Except.ok.injEq]

/-- A write stops where nothing is behind the address. -/
theorem memWrite_eq_error {a : Addr} {v : Nibble} {s : State} {f : Fault} :
    memWrite a v s = .error f ↔ s.present a = false ∧ f = .absentDataAddress a := by
  unfold memWrite; split <;> simp_all [error_eq_error, -Except.error.injEq]

/-- A present address reads. -/
theorem memRead_of_present {a : Addr} {s : State} (h : s.present a = true) : memRead a s = .ok (s.word a, s.touch a) :=
  memRead_eq_ok.mpr ⟨h, rfl⟩

/-- A present address takes a write. -/
theorem memWrite_of_present {a : Addr} {s : State} (h : s.present a = true) (v : Nibble) :
    memWrite a v s = .ok (s.store a v) :=
  memWrite_eq_ok.mpr ⟨h, rfl⟩

/-! ## Address forms: what they depend on -/

@[simp] theorem State.touch_ix (s : State) (a : Addr) : (s.touch a).ix = s.ix := by simp [State.ix]
@[simp] theorem State.touch_iy (s : State) (a : Addr) : (s.touch a).iy = s.iy := by simp [State.iy]
@[simp] theorem State.touchSel_ix (s : State) (r : Sel) : (s.touchSel r).ix = s.ix := by simp [State.ix]
@[simp] theorem State.touchSel_iy (s : State) (r : Sel) : (s.touchSel r).iy = s.iy := by simp [State.iy]
@[simp] theorem State.store_ix (s : State) (a : Addr) (v : Nibble) : (s.store a v).ix = s.ix := by simp [State.ix]
@[simp] theorem State.store_iy (s : State) (a : Addr) (v : Nibble) : (s.store a v).iy = s.iy := by simp [State.iy]
@[simp] theorem State.putSel_ix (s : State) (r : Sel) (v : Nibble) : (s.putSel r v).ix = s.ix := by simp [State.ix]
@[simp] theorem State.putSel_iy (s : State) (r : Sel) (v : Nibble) : (s.putSel r v).iy = s.iy := by simp [State.iy]
@[simp] theorem State.setSP_ix (s : State) (v : Byte) : (s.setSP v).ix = s.ix := rfl
@[simp] theorem State.setSP_iy (s : State) (v : Byte) : (s.setSP v).iy = s.iy := rfl
@[simp] theorem State.setRP_ix (s : State) (v : Nibble) : (s.setRP v).ix = s.ix := rfl
@[simp] theorem State.setRP_iy (s : State) (v : Nibble) : (s.setRP v).iy = s.iy := rfl
@[simp] theorem State.setZ_ix (s : State) (v : Bool) : (s.setZ v).ix = s.ix := rfl
@[simp] theorem State.setZ_iy (s : State) (v : Bool) : (s.setZ v).iy = s.iy := rfl
@[simp] theorem State.setC_ix (s : State) (v : Bool) : (s.setC v).ix = s.ix := rfl
@[simp] theorem State.setC_iy (s : State) (v : Bool) : (s.setC v).iy = s.iy := rfl
@[simp] theorem State.setAlu_ix (s : State) (o : AluOut) : (s.setAlu o).ix = s.ix := rfl
@[simp] theorem State.setAlu_iy (s : State) (o : AluOut) : (s.setAlu o).iy = s.iy := rfl
@[simp] theorem State.setPC_ix (s : State) (k : Bit) (p : Nibble) (d : Byte) : (s.setPC k p d).ix = s.ix := rfl
@[simp] theorem State.setPC_iy (s : State) (k : Bit) (p : Nibble) (d : Byte) : (s.setPC k p d).iy = s.iy := rfl
@[simp] theorem State.advance_ix (s : State) : s.advance.ix = s.ix := rfl
@[simp] theorem State.advance_iy (s : State) : s.advance.iy = s.iy := rfl
@[simp] theorem State.rotateZ_ix (s : State) (v : Nibble) : (s.rotateZ v).ix = s.ix := by simp [State.ix]
@[simp] theorem State.rotateZ_iy (s : State) (v : Nibble) : (s.rotateZ v).iy = s.iy := by simp [State.iy]

@[simp] theorem State.touch_ixNext (s : State) (a : Addr) : (s.touch a).ixNext = s.ixNext := by
  simp [State.ixNext, State.x]
@[simp] theorem State.store_ixNext (s : State) (a : Addr) (v : Nibble) : (s.store a v).ixNext = s.ixNext := by
  simp [State.ixNext, State.x]
@[simp] theorem State.setSP_ixNext (s : State) (v : Byte) : (s.setSP v).ixNext = s.ixNext := rfl
@[simp] theorem State.setPC_ixNext (s : State) (k : Bit) (p : Nibble) (d : Byte) : (s.setPC k p d).ixNext = s.ixNext := rfl

/-- The operand A after a write of `x[r]`. -/
theorem State.putSel_a (s : State) (r : Sel) (v : Nibble) : (s.putSel r v).a = if r = .a then v else s.a := by
  cases r <;> simp [State.putSel]

/-- The operand B after a write of `x[r]`. -/
theorem State.putSel_b (s : State) (r : Sel) (v : Nibble) : (s.putSel r v).b = if r = .b then v else s.b := by
  cases r <;> simp [State.putSel]

/-- A write of `x[r]` leaves every RAM word but the one `r` names. -/
theorem State.putSel_ramWord_other (s : State) {r : Sel} {c : Addr} (h : c ∉ (s.selAddr r).toList) (v : Nibble) :
    (s.putSel r v).ramWord c = s.ramWord c := by
  cases r <;> simp only [State.selAddr, Option.toList, List.mem_singleton, List.not_mem_nil, not_false_eq_true] at h
  · simp [State.putSel]
  · simp [State.putSel]
  · exact State.store_ramWord_other s (Ne.symm h) v
  · exact State.store_ramWord_other s (Ne.symm h) v

/-- Whether an operand answers depends on the device and the index registers only. -/
theorem State.selPresent_congr {s t : State} (hd : t.dev = s.dev) (hx : t.ix = s.ix) (hy : t.iy = s.iy) (r : Sel) :
    t.selPresent r = s.selPresent r := by
  cases r <;> simp [State.selPresent, hx, hy, State.present_of_dev hd]

@[simp] theorem State.touchSel_selPresent (s : State) (q r : Sel) : (s.touchSel q).selPresent r = s.selPresent r :=
  State.selPresent_congr (by simp) (by simp) (by simp) r

@[simp] theorem State.touch_selPresent (s : State) (a : Addr) (r : Sel) : (s.touch a).selPresent r = s.selPresent r :=
  State.selPresent_congr (by simp) (by simp) (by simp) r

@[simp] theorem State.setSP_selPresent (s : State) (v : Byte) (r : Sel) : (s.setSP v).selPresent r = s.selPresent r :=
  State.selPresent_congr (by simp) (by simp) (by simp) r

@[simp] theorem State.setAlu_selPresent (s : State) (o : AluOut) (r : Sel) : (s.setAlu o).selPresent r = s.selPresent r :=
  State.selPresent_congr (by simp) (by simp) (by simp) r

@[simp] theorem State.setZ_selPresent (s : State) (v : Bool) (r : Sel) : (s.setZ v).selPresent r = s.selPresent r :=
  State.selPresent_congr (by simp) (by simp) (by simp) r

@[simp] theorem State.setC_selPresent (s : State) (v : Bool) (r : Sel) : (s.setC v).selPresent r = s.selPresent r :=
  State.selPresent_congr (by simp) (by simp) (by simp) r

@[simp] theorem State.rotateZ_selPresent (s : State) (v : Nibble) (r : Sel) :
    (s.rotateZ v).selPresent r = s.selPresent r :=
  State.selPresent_congr (by simp) (by simp) (by simp) r

@[simp] theorem State.putSel_selPresent (s : State) (q : Sel) (v : Nibble) (r : Sel) :
    (s.putSel q v).selPresent r = s.selPresent r :=
  State.selPresent_congr (by simp) (by simp) (by simp) r

/-! ## Operands -/

/-- Reading `x[r]` answers where the operand is present. -/
theorem readSel_eq_ok {r : Sel} {s : State} {p : Nibble × State} :
    readSel r s = .ok p ↔ s.selPresent r = true ∧ p = (s.sel r, s.touchSel r) := by
  cases r <;> simp [readSel, State.selPresent, State.sel, State.touchSel, memRead_eq_ok, ok_eq_ok, -Except.ok.injEq]

/-- A present operand reads. -/
theorem readSel_of_present {r : Sel} {s : State} (h : s.selPresent r = true) :
    readSel r s = .ok (s.sel r, s.touchSel r) :=
  readSel_eq_ok.mpr ⟨h, rfl⟩

/-- Reading `x[r]` stops only at an absent address, the one that `r` names. -/
theorem readSel_eq_error {r : Sel} {s : State} {f : Fault} :
    readSel r s = .error f ↔ ∃ a, s.selAddr r = some a ∧ s.present a = false ∧ f = .absentDataAddress a := by
  cases r <;> simp [readSel, State.selAddr, memRead_eq_error]

/-- Writing `x[r]` answers where the operand is present. -/
theorem writeSel_eq_ok {r : Sel} {v : Nibble} {s t : State} :
    writeSel r v s = .ok t ↔ s.selPresent r = true ∧ t = s.putSel r v := by
  cases r <;> simp [writeSel, State.selPresent, State.putSel, memWrite_eq_ok, ok_eq_ok, -Except.ok.injEq]

/-- A present operand takes a write. -/
theorem writeSel_of_present {r : Sel} {s : State} (h : s.selPresent r = true) (v : Nibble) :
    writeSel r v s = .ok (s.putSel r v) :=
  writeSel_eq_ok.mpr ⟨h, rfl⟩

/-- Writing `x[r]` stops only at an absent address, the one that `r` names. -/
theorem writeSel_eq_error {r : Sel} {v : Nibble} {s : State} {f : Fault} :
    writeSel r v s = .error f ↔ ∃ a, s.selAddr r = some a ∧ s.present a = false ∧ f = .absentDataAddress a := by
  cases r <;> simp [writeSel, State.selAddr, memWrite_eq_error]

/-! ## The shapes of instructions -/

/-- What a move does. -/
theorem moveSel_eq_ok {r q : Sel} {s t : State} :
    moveSel r q s = .ok t ↔
      s.selPresent q = true ∧ s.selPresent r = true ∧ t = (s.touchSel q).putSel r (s.sel q) := by
  simp [moveSel, bind_eq_ok, readSel_eq_ok, writeSel_eq_ok]

/-- What a read-modify-write does. -/
theorem modifySel_eq_ok {r : Sel} {op : Nibble → State → Nibble × State} {s t : State} :
    modifySel r op s = .ok t ↔
      s.selPresent r = true ∧ (op (s.sel r) (s.touchSel r)).2.selPresent r = true ∧
        t = (op (s.sel r) (s.touchSel r)).2.putSel r (op (s.sel r) (s.touchSel r)).1 := by
  simp [modifySel, bind_eq_ok, readSel_eq_ok, writeSel_eq_ok]

/-- What an operation on two operands does: `r` is read, then `q`, then `r` written. -/
theorem combineSel_eq_ok {r q : Sel} {op : Nibble → Nibble → State → Nibble × State} {s t : State} :
    combineSel r q op s = .ok t ↔
      s.selPresent r = true ∧ s.selPresent q = true ∧
        (op (s.sel r) ((s.touchSel r).sel q) ((s.touchSel r).touchSel q)).2.selPresent r = true ∧
          t = (op (s.sel r) ((s.touchSel r).sel q) ((s.touchSel r).touchSel q)).2.putSel r
            (op (s.sel r) ((s.touchSel r).sel q) ((s.touchSel r).touchSel q)).1 := by
  simp [combineSel, bind_eq_ok, readSel_eq_ok, writeSel_eq_ok]

/-- What a compare or test of one operand does: no write. -/
theorem testSel_eq_ok {r : Sel} {op : Nibble → State → Nibble × State} {s t : State} :
    testSel r op s = .ok t ↔ s.selPresent r = true ∧ t = (op (s.sel r) (s.touchSel r)).2 := by
  simp [testSel, bind_eq_ok, readSel_eq_ok, ok_eq_ok, -Except.ok.injEq]

/-- What a compare or test of two operands does. -/
theorem testSel2_eq_ok {r q : Sel} {op : Nibble → Nibble → State → Nibble × State} {s t : State} :
    testSel2 r q op s = .ok t ↔
      s.selPresent r = true ∧ s.selPresent q = true ∧
        t = (op (s.sel r) ((s.touchSel r).sel q) ((s.touchSel r).touchSel q)).2 := by
  simp [testSel2, bind_eq_ok, readSel_eq_ok, ok_eq_ok, -Except.ok.injEq]

/-- What the memory form of an operation does: the word at `a`, then `r`, then the write at `a`. -/
theorem combineMem_eq_ok {a : Addr} {r : Sel} {op : Nibble → Nibble → State → Nibble × State} {s t : State} :
    combineMem a r op s = .ok t ↔
      s.present a = true ∧ s.selPresent r = true ∧
        (op (s.word a) ((s.touch a).sel r) ((s.touch a).touchSel r)).2.present a = true ∧
          t = (op (s.word a) ((s.touch a).sel r) ((s.touch a).touchSel r)).2.store a
            (op (s.word a) ((s.touch a).sel r) ((s.touch a).touchSel r)).1 := by
  simp [combineMem, bind_eq_ok, memRead_eq_ok, readSel_eq_ok, memWrite_eq_ok]

/-- What INC Mn and DEC Mn do. -/
theorem modifyMn_eq_ok {n : Nibble} {op : Nibble → State → Nibble × State} {s t : State} :
    modifyMn n op s = .ok t ↔
      s.present (regAddr n) = true ∧
        (op ((s.setRP n).word (regAddr n)) ((s.setRP n).touch (regAddr n))).2.present (regAddr n) = true ∧
          t = (op ((s.setRP n).word (regAddr n)) ((s.setRP n).touch (regAddr n))).2.store (regAddr n)
            (op ((s.setRP n).word (regAddr n)) ((s.setRP n).touch (regAddr n))).1 := by
  simp [modifyMn, bind_eq_ok, memRead_eq_ok, memWrite_eq_ok]

/-- What a push does. -/
theorem push_eq_ok {v : Nibble} {s t : State} :
    push v s = .ok t ↔
      s.present (stackAddr (s.sp - 1)) = true ∧ t = (s.setSP (s.sp - 1)).store (stackAddr (s.sp - 1)) v := by
  simp [push, memWrite_eq_ok]

/-- What a pop does. -/
theorem pop_eq_ok {s : State} {p : Nibble × State} :
    pop s = .ok p ↔
      s.present (stackAddr s.sp) = true ∧ p = (s.word (stackAddr s.sp), (s.touch (stackAddr s.sp)).setSP (s.sp + 1)) := by
  simp [pop, bind_eq_ok, memRead_eq_ok, ok_eq_ok, -Except.ok.injEq]

/-- What the two-word store of LBPX and RETD does. -/
theorem storePairX_eq_ok {e : Byte} {s t : State} :
    storePairX e s = .ok t ↔
      s.present s.ix = true ∧ s.present s.ixNext = true ∧
        t = ((s.store s.ix (loNibble e)).store s.ixNext (hiNibble e)).incX 2 := by
  simp [storePairX, bind_eq_ok, memWrite_eq_ok, ok_eq_ok, -Except.ok.injEq]

/-! ## The return address -/

/-- The three words of the return address `s` is about to push. -/
theorem pushReturn_eq_ok {s t : State} :
    pushReturn s = .ok t ↔
      s.present (stackAddr (s.sp - 1)) = true ∧ s.present (stackAddr (s.sp - 2)) = true ∧
        s.present (stackAddr (s.sp - 3)) = true ∧
          t = (((s.store (stackAddr (s.sp - 1)) s.pcp).store (stackAddr (s.sp - 2)) (hiNibble s.pcs)).store
            (stackAddr (s.sp - 3)) (loNibble s.pcs)).setSP (s.sp - 3) := by
  simp [pushReturn, bind_eq_ok, memWrite_eq_ok, ok_eq_ok, -Except.ok.injEq]

/-- The pop of a return address: three reads, then the counter and SP. -/
theorem popReturn_eq_ok {s t : State} :
    popReturn s = .ok t ↔
      s.present (stackAddr s.sp) = true ∧ s.present (stackAddr (s.sp + 1)) = true ∧
        s.present (stackAddr (s.sp + 2)) = true ∧
          t = ((((s.touch (stackAddr s.sp)).touch (stackAddr (s.sp + 1))).touch (stackAddr (s.sp + 2))).setPC s.pcb
            (((s.touch (stackAddr s.sp)).touch (stackAddr (s.sp + 1))).word (stackAddr (s.sp + 2)))
            ((s.touch (stackAddr s.sp)).word (stackAddr (s.sp + 1)) ++ s.word (stackAddr s.sp))).setSP (s.sp + 3) := by
  simp [popReturn, bind_eq_ok, memRead_eq_ok, ok_eq_ok, -Except.ok.injEq]

/-! ## The interrupt and the boundary -/

/-- What interrupt entry does (60_exceptions.md R306). -/
theorem raiseInterrupt_eq_ok {v : Nibble} {s t : State} :
    raiseInterrupt v s = .ok t ↔
      ∃ u, pushReturn s = .ok u ∧
        t = (((((u.setI false).setNext u.pcb 1).setPC u.pcb 1 ((0 : Nibble) ++ v)).setRun .run).setHidden false false) := by
  simp [raiseInterrupt, bind_eq_ok, ok_eq_ok, -Except.ok.injEq]

/-- What the boundary does, one case for each kind of input. -/
theorem State.boundary_cases {s t : State} (h : s.boundary = .ok t) :
    (s.inputs = [] ∧ t = s) ∨
    (∃ rest, s.inputs = .quiet :: rest ∧ t = s.setInputs rest) ∨
    (∃ rest, s.inputs = .reset :: rest ∧ t = (s.setInputs rest).initialReset) ∨
    (∃ v rest, s.inputs = .request v :: rest ∧ s.accepts v = true ∧ raiseInterrupt v (s.setInputs rest) = .ok t) ∨
    (∃ v rest, s.inputs = .request v :: rest ∧ s.accepts v = false ∧ t = s.setInputs rest) := by
  unfold State.boundary at h
  split at h
  · exact .inl ⟨‹_›, by simpa using h.symm⟩
  · exact .inr (.inl ⟨_, ‹_›, by simpa using h.symm⟩)
  · exact .inr (.inr (.inl ⟨_, ‹_›, by simpa using h.symm⟩))
  · split at h
    · exact .inr (.inr (.inr (.inl ⟨_, _, ‹_›, ‹_›, h⟩)))
    · exact .inr (.inr (.inr (.inr ⟨_, _, ‹_›, Bool.eq_false_iff.mpr ‹_›, by simpa using h.symm⟩)))

/-! ## Reset out of a stop -/

/-- No reset event among the inputs: none will come. -/
theorem afterReset_eq_none {l : List Input} : afterReset l = none ↔ ∀ x ∈ l, x ≠ .reset := by
  induction l with
  | nil => simp [afterReset]
  | cons x l ih => cases x <;> simp [afterReset, ih]

/-- The inputs after the first reset event. -/
theorem afterReset_append {l rest : List Input} (h : ∀ x ∈ l, x ≠ .reset) :
    afterReset (l ++ .reset :: rest) = some rest := by
  induction l with
  | nil => rfl
  | cons x l ih =>
    have ih := ih fun y hy => h y (List.mem_cons_of_mem _ hy)
    cases x with
    | reset => exact absurd rfl (h _ List.mem_cons_self)
    | quiet => exact ih
    | request v => exact ih

/-- A stopped core without a reset to come is at the end of its run. -/
theorem State.stopped_of_no_reset {s : State} (h : ∀ x ∈ s.inputs, x ≠ .reset) (f : Fault) : s.stopped f = .fault f := by
  simp [State.stopped, afterReset_eq_none.mpr h]

/-- A stopped core with a reset to come goes on from it. -/
theorem State.stopped_of_reset {s : State} {l rest : List Input} (hi : s.inputs = l ++ .reset :: rest)
    (h : ∀ x ∈ l, x ≠ .reset) (f : Fault) : s.stopped f = .next (s.setInputs rest).initialReset := by
  simp [State.stopped, hi, afterReset_append h]

/-- What a stopped core answers when it goes on. -/
theorem State.stopped_eq_next {s t : State} {f : Fault} :
    s.stopped f = .next t ↔ ∃ rest, afterReset s.inputs = some rest ∧ t = (s.setInputs rest).initialReset := by
  unfold State.stopped
  cases afterReset s.inputs <;> simp [eq_comm]

/-- A boundary that answers is the boundary settled. -/
theorem State.settle_of_boundary {s t : State} (h : s.boundary = .ok t) : s.settle = .next t := by
  simp [State.settle, h]

/-- What a settled boundary answers: the boundary, or a reset after interrupt entry found no memory. -/
theorem State.settle_eq_next {s t : State} :
    s.settle = .next t ↔ s.boundary = .ok t ∨ ∃ f, s.boundary = .error f ∧ s.stopped f = .next t := by
  unfold State.settle
  split <;> simp_all

end Sys2Proof.Machine
end

