-- ==== Sys2Proof/Laws/Cycle.lean ====
section
/-! SUPPORT. The step: the bookkeeping written out, and everything a step can do, said once. -/

namespace Sys2Proof.Machine

open Sys2Proof.Config

/-- The bookkeeping at the end of an instruction, field by field. -/
theorem endOf_eq (pset : Bool) (clk : Nat) (before after : State) :
    endOf pset clk before after =
      { after with
          nbp := if pset then after.nbp else after.pcb
          npp := if pset then after.npp else after.pcp
          afterPset := pset
          eiDelay := !before.fi && after.fi
          clocks := after.clocks + clk } := by
  unfold endOf
  cases pset <;> rfl

/-- The same for an instruction of the opcode map. -/
theorem endOfInstr_eq (i : Instr) (before after : State) :
    endOfInstr i before after =
      { after with
          nbp := if isPset i then after.nbp else after.pcb
          npp := if isPset i then after.npp else after.pcp
          afterPset := isPset i
          eiDelay := !before.fi && after.fi
          clocks := after.clocks + clocksOf i } :=
  endOf_eq _ _ _ _

/-- The bookkeeping at the end of any fetched word, field by field. -/
theorem finishWord_eq (t : Treatment) (before after : State) :
    ∃ (pset : Bool) (clk : Nat), finishWord t before after =
      { after with
          nbp := if pset then after.nbp else after.pcb
          npp := if pset then after.npp else after.pcp
          afterPset := pset
          eiDelay := !before.fi && after.fi
          clocks := after.clocks + clk } := by
  cases t with
  | secondCode i => exact ⟨_, _, endOfInstr_eq i before after⟩
  | own l clk => exact ⟨_, _, endOf_eq false clk before after⟩

/-- Writing a place changes neither the inputs, the device nor the bookkeeping of the model. -/
@[simp] theorem State.setPlace_inputs (s : State) (v : Nibble) (g : Place) : (s.setPlace v g).inputs = s.inputs := by
  cases g <;> rfl
@[simp] theorem State.setPlace_dev (s : State) (v : Nibble) (g : Place) : (s.setPlace v g).dev = s.dev := by
  cases g <;> rfl
@[simp] theorem State.setPlace_draws (s : State) (v : Nibble) (g : Place) : (s.setPlace v g).draws = s.draws := by
  cases g <;> rfl

/-- Steps still to be left out are steps not there. -/
theorem runSteps_drop (l : List Micro) (n : Nat) (temp : Nibble) (s : State) :
    runSteps l n temp s = runSteps (l.drop n) 0 temp s := by
  induction l generalizing n with
  | nil => cases n <;> rfl
  | cons m l ih =>
    cases n with
    | zero => rfl
    | succ n => exact ih n

/-- Whatever execution of an instruction keeps, and a change of one place, the steps of a device's own instruction keep. -/
theorem runSteps_keeps {P : State → Prop} (hx : ∀ i s t, P s → exec i s = .next t → P t)
    (hp : ∀ g v s, P s → P (s.setPlace v g)) (hd : ∀ n s, P s → P (s.setDraws n)) :
    ∀ (l : List Micro) (skip : Nat) (temp : Nibble) (s t : State), P s → runSteps l skip temp s = .next t → P t := by
  intro l
  induction l with
  | nil => intro skip temp s t hs h; cases skip <;> (simp only [runSteps, Host.Outcome.next.injEq] at h; exact h ▸ hs)
  | cons m l ih =>
    intro skip temp s t hs h
    cases skip with
    | succ n => exact ih _ _ _ _ hs h
    | zero =>
      cases m with
      | acts i =>
        simp only [runSteps] at h
        split at h
        · exact ih _ _ _ _ (hx _ _ _ hs ‹_›) h
        · cases h
        · cases h
      | put g v => exact ih _ _ _ _ (hp _ _ _ hs) h
      | copy g k => exact ih _ _ _ _ (hp _ _ _ hs) h
      | free g => exact ih _ _ _ _ (hd _ _ (hp _ _ _ hs)) h
      | skip g mask value n => exact ih _ _ _ _ hs h

/-- With no input left, the boundary does nothing. -/
theorem State.boundary_nil {s : State} (h : s.inputs = []) : s.boundary = .ok s := by
  unfold State.boundary; rw [h]

/-- A request that the test of 60_exceptions.md R304 turns away is used up and nothing else happens. -/
theorem State.boundary_request_refused {s : State} {v : Nibble} {rest : List Input} (h : s.inputs = .request v :: rest)
    (ha : s.accepts v = false) : s.boundary = .ok (s.setInputs rest) := by
  unfold State.boundary; rw [h]; simp [ha]

/-- A request that the test of R304 lets pass is taken. -/
theorem State.boundary_request_accepted {s : State} {v : Nibble} {rest : List Input}
    (h : s.inputs = .request v :: rest) (ha : s.accepts v = true) :
    s.boundary = raiseInterrupt v (s.setInputs rest) := by
  unfold State.boundary; rw [h]; simp [ha]

/-- A reset at the boundary. -/
theorem State.boundary_reset {s : State} {rest : List Input} (h : s.inputs = .reset :: rest) :
    s.boundary = .ok (s.setInputs rest).initialReset := by
  unfold State.boundary; rw [h]

/-- A word in ROM that the device implements is fetched as what it decodes to. -/
theorem fetch_of_word {s : State} {w : Word} {i : Instr} (h : Cells.lookup s.dev.rom s.pc.toNat = some w)
    (hx : excludedWord s.dev.excluded w = false) (hd : decode w = .ok i) : fetch s = .ok (.secondCode i) := by
  simp [fetch, h, operationOf, hx, hd]

/-- A running core that fetches `i` runs it. -/
theorem step_of_fetch {s : State} {i : Instr} (hr : s.run = .run) (hf : fetch s = .ok (.secondCode i)) :
    step s = runInstr i s := by
  simp [step, cycle, hr, hf, runInstr]

/-- A running core whose fetch finds nothing to execute stops. -/
theorem step_of_no_fetch {s : State} {f : Fault} (hr : s.run = .run) (hf : fetch s = .error f) :
    step s = s.stopped f := by
  simp [step, cycle, hr, hf]

/-- A core in HALT or SLEEP only tests the boundary. -/
theorem step_of_halted {s : State} (hr : s.run ≠ .run) : step s = (s.setHidden false false).settle := by
  unfold step cycle
  split
  · exact absurd ‹_› hr
  · rfl
  · rfl

/-- An instruction that executes: its step is its end, settled. -/
theorem runInstr_of_exec {i : Instr} {s u : State} (h : exec i s.advance = .next u) :
    runInstr i s = (endOfInstr i s.advance u).settle := by
  simp [runInstr, runWord, executeWord, finishWord, h]

/-- An instruction that stops: its step is the stop. -/
theorem runInstr_of_fault {i : Instr} {s : State} {f : Fault} (h : exec i s.advance = .fault f) :
    runInstr i s = s.stopped f := by
  simp [runInstr, runWord, executeWord, h]

/-- What a run of a fetched word answers. -/
theorem runWord_eq_next {w : Treatment} {s t : State} :
    runWord w s = .next t ↔
      (∃ u, executeWord w s.advance = .next u ∧ (finishWord w s.advance u).settle = .next t) ∨
      ∃ f, executeWord w s.advance = .fault f ∧ s.stopped f = .next t := by
  unfold runWord
  split <;> simp_all

/-- Everything a step can answer: the boundary of a core in HALT or SLEEP; a fetched word, executed, and its boundary; or
a reset after a stop. -/
theorem step_cases {s t : State} (h : step s = .next t) :
    (s.run ≠ .run ∧ (s.setHidden false false).settle = .next t) ∨
    (s.run = .run ∧ ∃ w u, fetch s = .ok w ∧ executeWord w s.advance = .next u ∧
      (finishWord w s.advance u).settle = .next t) ∨
    ∃ rest, afterReset s.inputs = some rest ∧ t = (s.setInputs rest).initialReset := by
  by_cases hr : s.run = .run
  · right
    cases hf : fetch s with
    | ok w =>
      have h' : runWord w s = .next t := by simpa [step, cycle, hr, hf] using h
      rcases runWord_eq_next.mp h' with ⟨u, h1, h2⟩ | ⟨f, -, h2⟩
      · exact .inl ⟨hr, w, u, rfl, h1, h2⟩
      · exact .inr (State.stopped_eq_next.mp h2)
    | error f => rw [step_of_no_fetch hr hf] at h; exact .inr (State.stopped_eq_next.mp h)
  · left
    rw [step_of_halted hr] at h
    exact ⟨hr, h⟩

end Sys2Proof.Machine
end

