-- ==== Sys2Proof/Laws/PerInstr.lean ====
section
/-! SUPPORT. A statement made of every instruction: its word has the fixed bits of its row of spec/opcode_table.json and
the row's clock cycles (30_encoding.md R98; 70_reset_and_hazards.md R360). The rows are written from the table, apart from the encoder. -/

namespace Sys2Proof.Laws.MatchesTable

open Sys2Proof Sys2Proof.Machine

/-- One row of the table: the fixed bits (mask), their values (match), the clock cycles. -/
structure Row where
  mask : Word
  bits : Word
  clocks : Nat
deriving DecidableEq, Repr

/-- The row of an instruction. -/
def row : Instr → Row
  | .pset _ => ⟨0xFE0, 0xE40, 5⟩
  | .jp _ => ⟨0xF00, 0x000, 5⟩
  | .jpC _ => ⟨0xF00, 0x200, 5⟩
  | .jpNC _ => ⟨0xF00, 0x300, 5⟩
  | .jpZ _ => ⟨0xF00, 0x600, 5⟩
  | .jpNZ _ => ⟨0xF00, 0x700, 5⟩
  | .jpba => ⟨0xFFF, 0xFE8, 5⟩
  | .call _ => ⟨0xF00, 0x400, 7⟩
  | .calz _ => ⟨0xF00, 0x500, 7⟩
  | .ret => ⟨0xFFF, 0xFDF, 7⟩
  | .rets => ⟨0xFFF, 0xFDE, 12⟩
  | .retd _ => ⟨0xF00, 0x100, 12⟩
  | .nop5 => ⟨0xFFF, 0xFFB, 5⟩
  | .nop7 => ⟨0xFFF, 0xFFF, 7⟩
  | .halt => ⟨0xFFF, 0xFF8, 5⟩
  | .slp => ⟨0xFFF, 0xFF9, 5⟩
  | .setF _ => ⟨0xFF0, 0xF40, 7⟩
  | .rstF _ => ⟨0xFF0, 0xF50, 7⟩
  | .scf => ⟨0xFFF, 0xF41, 7⟩
  | .rcf => ⟨0xFFF, 0xF5E, 7⟩
  | .szf => ⟨0xFFF, 0xF42, 7⟩
  | .rzf => ⟨0xFFF, 0xF5D, 7⟩
  | .sdf => ⟨0xFFF, 0xF44, 7⟩
  | .rdf => ⟨0xFFF, 0xF5B, 7⟩
  | .ei => ⟨0xFFF, 0xF48, 7⟩
  | .di => ⟨0xFFF, 0xF57, 7⟩
  | .pushR _ => ⟨0xFFC, 0xFC0, 5⟩
  | .pushXP => ⟨0xFFF, 0xFC4, 5⟩
  | .pushXH => ⟨0xFFF, 0xFC5, 5⟩
  | .pushXL => ⟨0xFFF, 0xFC6, 5⟩
  | .pushYP => ⟨0xFFF, 0xFC7, 5⟩
  | .pushYH => ⟨0xFFF, 0xFC8, 5⟩
  | .pushYL => ⟨0xFFF, 0xFC9, 5⟩
  | .pushF => ⟨0xFFF, 0xFCA, 5⟩
  | .popR _ => ⟨0xFFC, 0xFD0, 5⟩
  | .popXP => ⟨0xFFF, 0xFD4, 5⟩
  | .popXH => ⟨0xFFF, 0xFD5, 5⟩
  | .popXL => ⟨0xFFF, 0xFD6, 5⟩
  | .popYP => ⟨0xFFF, 0xFD7, 5⟩
  | .popYH => ⟨0xFFF, 0xFD8, 5⟩
  | .popYL => ⟨0xFFF, 0xFD9, 5⟩
  | .popF => ⟨0xFFF, 0xFDA, 5⟩
  | .incSP => ⟨0xFFF, 0xFDB, 5⟩
  | .decSP => ⟨0xFFF, 0xFCB, 5⟩
  | .ldSPHR _ => ⟨0xFFC, 0xFE0, 5⟩
  | .ldSPLR _ => ⟨0xFFC, 0xFF0, 5⟩
  | .ldRSPH _ => ⟨0xFFC, 0xFE4, 5⟩
  | .ldRSPL _ => ⟨0xFFC, 0xFF4, 5⟩
  | .incX => ⟨0xFFF, 0xEE0, 5⟩
  | .incY => ⟨0xFFF, 0xEF0, 5⟩
  | .ldXE _ => ⟨0xF00, 0xB00, 5⟩
  | .ldYE _ => ⟨0xF00, 0x800, 5⟩
  | .ldXPR _ => ⟨0xFFC, 0xE80, 5⟩
  | .ldXHR _ => ⟨0xFFC, 0xE84, 5⟩
  | .ldXLR _ => ⟨0xFFC, 0xE88, 5⟩
  | .ldYPR _ => ⟨0xFFC, 0xE90, 5⟩
  | .ldYHR _ => ⟨0xFFC, 0xE94, 5⟩
  | .ldYLR _ => ⟨0xFFC, 0xE98, 5⟩
  | .ldRXP _ => ⟨0xFFC, 0xEA0, 5⟩
  | .ldRXH _ => ⟨0xFFC, 0xEA4, 5⟩
  | .ldRXL _ => ⟨0xFFC, 0xEA8, 5⟩
  | .ldRYP _ => ⟨0xFFC, 0xEB0, 5⟩
  | .ldRYH _ => ⟨0xFFC, 0xEB4, 5⟩
  | .ldRYL _ => ⟨0xFFC, 0xEB8, 5⟩
  | .adcXHI _ => ⟨0xFF0, 0xA00, 7⟩
  | .adcXLI _ => ⟨0xFF0, 0xA10, 7⟩
  | .adcYHI _ => ⟨0xFF0, 0xA20, 7⟩
  | .adcYLI _ => ⟨0xFF0, 0xA30, 7⟩
  | .cpXHI _ => ⟨0xFF0, 0xA40, 7⟩
  | .cpXLI _ => ⟨0xFF0, 0xA50, 7⟩
  | .cpYHI _ => ⟨0xFF0, 0xA60, 7⟩
  | .cpYLI _ => ⟨0xFF0, 0xA70, 7⟩
  | .ldRI _ _ => ⟨0xFC0, 0xE00, 5⟩
  | .ldRQ _ _ => ⟨0xFF0, 0xEC0, 5⟩
  | .ldAMn _ => ⟨0xFF0, 0xFA0, 5⟩
  | .ldBMn _ => ⟨0xFF0, 0xFB0, 5⟩
  | .ldMnA _ => ⟨0xFF0, 0xF80, 5⟩
  | .ldMnB _ => ⟨0xFF0, 0xF90, 5⟩
  | .ldpxMXI _ => ⟨0xFF0, 0xE60, 5⟩
  | .ldpxRQ _ _ => ⟨0xFF0, 0xEE0, 5⟩
  | .ldpyMYI _ => ⟨0xFF0, 0xE70, 5⟩
  | .ldpyRQ _ _ => ⟨0xFF0, 0xEF0, 5⟩
  | .lbpx _ => ⟨0xF00, 0x900, 5⟩
  | .addRI _ _ => ⟨0xFC0, 0xC00, 7⟩
  | .addRQ _ _ => ⟨0xFF0, 0xA80, 7⟩
  | .adcRI _ _ => ⟨0xFC0, 0xC40, 7⟩
  | .adcRQ _ _ => ⟨0xFF0, 0xA90, 7⟩
  | .subRQ _ _ => ⟨0xFF0, 0xAA0, 7⟩
  | .sbcRI _ _ => ⟨0xFC0, 0xD40, 7⟩
  | .sbcRQ _ _ => ⟨0xFF0, 0xAB0, 7⟩
  | .andRI _ _ => ⟨0xFC0, 0xC80, 7⟩
  | .andRQ _ _ => ⟨0xFF0, 0xAC0, 7⟩
  | .orRI _ _ => ⟨0xFC0, 0xCC0, 7⟩
  | .orRQ _ _ => ⟨0xFF0, 0xAD0, 7⟩
  | .xorRI _ _ => ⟨0xFC0, 0xD00, 7⟩
  | .xorRQ _ _ => ⟨0xFF0, 0xAE0, 7⟩
  | .cpRI _ _ => ⟨0xFC0, 0xDC0, 7⟩
  | .cpRQ _ _ => ⟨0xFF0, 0xF00, 7⟩
  | .fanRI _ _ => ⟨0xFC0, 0xD80, 7⟩
  | .fanRQ _ _ => ⟨0xFF0, 0xF10, 7⟩
  | .rlc _ => ⟨0xFF0, 0xAF0, 7⟩
  | .rrc _ => ⟨0xFFC, 0xE8C, 5⟩
  | .incMn _ => ⟨0xFF0, 0xF60, 7⟩
  | .decMn _ => ⟨0xFF0, 0xF70, 7⟩
  | .acpx _ => ⟨0xFFC, 0xF28, 7⟩
  | .acpy _ => ⟨0xFFC, 0xF2C, 7⟩
  | .scpx _ => ⟨0xFFC, 0xF38, 7⟩
  | .scpy _ => ⟨0xFFC, 0xF3C, 7⟩
  | .notR _ => ⟨0xFCF, 0xD0F, 7⟩

/-- The word of `i` has the fixed bits of its row, and `i` takes the row's clocks. -/
def Statement (i : Instr) : Prop := encode i &&& (row i).mask = (row i).bits ∧ clocksOf i = (row i).clocks

/-- A bit position of a word. -/
theorem bit_cases (j : Nat) (h : j < 12) :
    j = 0 ∨ j = 1 ∨ j = 2 ∨ j = 3 ∨ j = 4 ∨ j = 5 ∨ j = 6 ∨ j = 7 ∨ j = 8 ∨ j = 9 ∨ j = 10 ∨ j = 11 := by omega

/-- The fixed bits of a type I word. -/
theorem typeI_fixed (op : BitVec 4) (e : Byte) : typeI op e &&& 0xF00 = op ++ 0#8 := by
  unfold typeI; ext j hj; simp only [BitVec.getElem_and, BitVec.getElem_append]
  rcases bit_cases j hj with rfl | rfl | rfl | rfl | rfl | rfl | rfl | rfl | rfl | rfl | rfl | rfl <;> simp

/-- The fixed bits of a type II word. -/
theorem typeII_fixed (op : BitVec 6) (r : Sel) (i : Nibble) : typeII op r i &&& 0xFC0 = op ++ 0#6 := by
  unfold typeII; ext j hj; simp only [BitVec.getElem_and, BitVec.getElem_append]
  rcases bit_cases j hj with rfl | rfl | rfl | rfl | rfl | rfl | rfl | rfl | rfl | rfl | rfl | rfl <;> simp

/-- The fixed bits of a type IV word. -/
theorem typeIV_fixed (op : BitVec 8) (i : Nibble) : typeIV op i &&& 0xFF0 = op ++ 0#4 := by
  unfold typeIV; ext j hj; simp only [BitVec.getElem_and, BitVec.getElem_append]
  rcases bit_cases j hj with rfl | rfl | rfl | rfl | rfl | rfl | rfl | rfl | rfl | rfl | rfl | rfl <;> simp

theorem pset (p : BitVec 5) : Statement (.pset p) := ⟨by revert p; decide, rfl⟩
theorem jp (s : Byte) : Statement (.jp s) := ⟨(typeI_fixed _ _).trans rfl, rfl⟩
theorem jpC (s : Byte) : Statement (.jpC s) := ⟨(typeI_fixed _ _).trans rfl, rfl⟩
theorem jpNC (s : Byte) : Statement (.jpNC s) := ⟨(typeI_fixed _ _).trans rfl, rfl⟩
theorem jpZ (s : Byte) : Statement (.jpZ s) := ⟨(typeI_fixed _ _).trans rfl, rfl⟩
theorem jpNZ (s : Byte) : Statement (.jpNZ s) := ⟨(typeI_fixed _ _).trans rfl, rfl⟩
theorem jpba : Statement .jpba := ⟨rfl, rfl⟩
theorem call (s : Byte) : Statement (.call s) := ⟨(typeI_fixed _ _).trans rfl, rfl⟩
theorem calz (s : Byte) : Statement (.calz s) := ⟨(typeI_fixed _ _).trans rfl, rfl⟩
theorem ret : Statement .ret := ⟨rfl, rfl⟩
theorem rets : Statement .rets := ⟨rfl, rfl⟩
theorem retd (e : Byte) : Statement (.retd e) := ⟨(typeI_fixed _ _).trans rfl, rfl⟩
theorem nop5 : Statement .nop5 := ⟨rfl, rfl⟩
theorem nop7 : Statement .nop7 := ⟨rfl, rfl⟩
theorem halt : Statement .halt := ⟨rfl, rfl⟩
theorem slp : Statement .slp := ⟨rfl, rfl⟩
theorem setF (i : Nibble) : Statement (.setF i) := ⟨(typeIV_fixed _ _).trans rfl, rfl⟩
theorem rstF (i : Nibble) : Statement (.rstF i) := ⟨(typeIV_fixed _ _).trans rfl, rfl⟩
theorem scf : Statement .scf := ⟨rfl, rfl⟩
theorem rcf : Statement .rcf := ⟨rfl, rfl⟩
theorem szf : Statement .szf := ⟨rfl, rfl⟩
theorem rzf : Statement .rzf := ⟨rfl, rfl⟩
theorem sdf : Statement .sdf := ⟨rfl, rfl⟩
theorem rdf : Statement .rdf := ⟨rfl, rfl⟩
theorem ei : Statement .ei := ⟨rfl, rfl⟩
theorem di : Statement .di := ⟨rfl, rfl⟩
theorem pushR (r : Sel) : Statement (.pushR r) := ⟨by cases r <;> rfl, rfl⟩
theorem pushXP : Statement .pushXP := ⟨rfl, rfl⟩
theorem pushXH : Statement .pushXH := ⟨rfl, rfl⟩
theorem pushXL : Statement .pushXL := ⟨rfl, rfl⟩
theorem pushYP : Statement .pushYP := ⟨rfl, rfl⟩
theorem pushYH : Statement .pushYH := ⟨rfl, rfl⟩
theorem pushYL : Statement .pushYL := ⟨rfl, rfl⟩
theorem pushF : Statement .pushF := ⟨rfl, rfl⟩
theorem popR (r : Sel) : Statement (.popR r) := ⟨by cases r <;> rfl, rfl⟩
theorem popXP : Statement .popXP := ⟨rfl, rfl⟩
theorem popXH : Statement .popXH := ⟨rfl, rfl⟩
theorem popXL : Statement .popXL := ⟨rfl, rfl⟩
theorem popYP : Statement .popYP := ⟨rfl, rfl⟩
theorem popYH : Statement .popYH := ⟨rfl, rfl⟩
theorem popYL : Statement .popYL := ⟨rfl, rfl⟩
theorem popF : Statement .popF := ⟨rfl, rfl⟩
theorem incSP : Statement .incSP := ⟨rfl, rfl⟩
theorem decSP : Statement .decSP := ⟨rfl, rfl⟩
theorem ldSPHR (r : Sel) : Statement (.ldSPHR r) := ⟨by cases r <;> rfl, rfl⟩
theorem ldSPLR (r : Sel) : Statement (.ldSPLR r) := ⟨by cases r <;> rfl, rfl⟩
theorem ldRSPH (r : Sel) : Statement (.ldRSPH r) := ⟨by cases r <;> rfl, rfl⟩
theorem ldRSPL (r : Sel) : Statement (.ldRSPL r) := ⟨by cases r <;> rfl, rfl⟩
theorem incX : Statement .incX := ⟨rfl, rfl⟩
theorem incY : Statement .incY := ⟨rfl, rfl⟩
theorem ldXE (e : Byte) : Statement (.ldXE e) := ⟨(typeI_fixed _ _).trans rfl, rfl⟩
theorem ldYE (e : Byte) : Statement (.ldYE e) := ⟨(typeI_fixed _ _).trans rfl, rfl⟩
theorem ldXPR (r : Sel) : Statement (.ldXPR r) := ⟨by cases r <;> rfl, rfl⟩
theorem ldXHR (r : Sel) : Statement (.ldXHR r) := ⟨by cases r <;> rfl, rfl⟩
theorem ldXLR (r : Sel) : Statement (.ldXLR r) := ⟨by cases r <;> rfl, rfl⟩
theorem ldYPR (r : Sel) : Statement (.ldYPR r) := ⟨by cases r <;> rfl, rfl⟩
theorem ldYHR (r : Sel) : Statement (.ldYHR r) := ⟨by cases r <;> rfl, rfl⟩
theorem ldYLR (r : Sel) : Statement (.ldYLR r) := ⟨by cases r <;> rfl, rfl⟩
theorem ldRXP (r : Sel) : Statement (.ldRXP r) := ⟨by cases r <;> rfl, rfl⟩
theorem ldRXH (r : Sel) : Statement (.ldRXH r) := ⟨by cases r <;> rfl, rfl⟩
theorem ldRXL (r : Sel) : Statement (.ldRXL r) := ⟨by cases r <;> rfl, rfl⟩
theorem ldRYP (r : Sel) : Statement (.ldRYP r) := ⟨by cases r <;> rfl, rfl⟩
theorem ldRYH (r : Sel) : Statement (.ldRYH r) := ⟨by cases r <;> rfl, rfl⟩
theorem ldRYL (r : Sel) : Statement (.ldRYL r) := ⟨by cases r <;> rfl, rfl⟩
theorem adcXHI (i : Nibble) : Statement (.adcXHI i) := ⟨(typeIV_fixed _ _).trans rfl, rfl⟩
theorem adcXLI (i : Nibble) : Statement (.adcXLI i) := ⟨(typeIV_fixed _ _).trans rfl, rfl⟩
theorem adcYHI (i : Nibble) : Statement (.adcYHI i) := ⟨(typeIV_fixed _ _).trans rfl, rfl⟩
theorem adcYLI (i : Nibble) : Statement (.adcYLI i) := ⟨(typeIV_fixed _ _).trans rfl, rfl⟩
theorem cpXHI (i : Nibble) : Statement (.cpXHI i) := ⟨(typeIV_fixed _ _).trans rfl, rfl⟩
theorem cpXLI (i : Nibble) : Statement (.cpXLI i) := ⟨(typeIV_fixed _ _).trans rfl, rfl⟩
theorem cpYHI (i : Nibble) : Statement (.cpYHI i) := ⟨(typeIV_fixed _ _).trans rfl, rfl⟩
theorem cpYLI (i : Nibble) : Statement (.cpYLI i) := ⟨(typeIV_fixed _ _).trans rfl, rfl⟩
theorem ldRI (r : Sel) (i : Nibble) : Statement (.ldRI r i) := ⟨(typeII_fixed _ _ _).trans rfl, rfl⟩
theorem ldRQ (r : Sel) (q : Sel) : Statement (.ldRQ r q) := ⟨by cases r <;> cases q <;> rfl, rfl⟩
theorem ldAMn (n : Nibble) : Statement (.ldAMn n) := ⟨(typeIV_fixed _ _).trans rfl, rfl⟩
theorem ldBMn (n : Nibble) : Statement (.ldBMn n) := ⟨(typeIV_fixed _ _).trans rfl, rfl⟩
theorem ldMnA (n : Nibble) : Statement (.ldMnA n) := ⟨(typeIV_fixed _ _).trans rfl, rfl⟩
theorem ldMnB (n : Nibble) : Statement (.ldMnB n) := ⟨(typeIV_fixed _ _).trans rfl, rfl⟩
theorem ldpxMXI (i : Nibble) : Statement (.ldpxMXI i) := ⟨(typeIV_fixed _ _).trans rfl, rfl⟩
theorem ldpxRQ (r : Sel) (q : Sel) : Statement (.ldpxRQ r q) := ⟨by cases r <;> cases q <;> rfl, rfl⟩
theorem ldpyMYI (i : Nibble) : Statement (.ldpyMYI i) := ⟨(typeIV_fixed _ _).trans rfl, rfl⟩
theorem ldpyRQ (r : Sel) (q : Sel) : Statement (.ldpyRQ r q) := ⟨by cases r <;> cases q <;> rfl, rfl⟩
theorem lbpx (e : Byte) : Statement (.lbpx e) := ⟨(typeI_fixed _ _).trans rfl, rfl⟩
theorem addRI (r : Sel) (i : Nibble) : Statement (.addRI r i) := ⟨(typeII_fixed _ _ _).trans rfl, rfl⟩
theorem addRQ (r : Sel) (q : Sel) : Statement (.addRQ r q) := ⟨by cases r <;> cases q <;> rfl, rfl⟩
theorem adcRI (r : Sel) (i : Nibble) : Statement (.adcRI r i) := ⟨(typeII_fixed _ _ _).trans rfl, rfl⟩
theorem adcRQ (r : Sel) (q : Sel) : Statement (.adcRQ r q) := ⟨by cases r <;> cases q <;> rfl, rfl⟩
theorem subRQ (r : Sel) (q : Sel) : Statement (.subRQ r q) := ⟨by cases r <;> cases q <;> rfl, rfl⟩
theorem sbcRI (r : Sel) (i : Nibble) : Statement (.sbcRI r i) := ⟨(typeII_fixed _ _ _).trans rfl, rfl⟩
theorem sbcRQ (r : Sel) (q : Sel) : Statement (.sbcRQ r q) := ⟨by cases r <;> cases q <;> rfl, rfl⟩
theorem andRI (r : Sel) (i : Nibble) : Statement (.andRI r i) := ⟨(typeII_fixed _ _ _).trans rfl, rfl⟩
theorem andRQ (r : Sel) (q : Sel) : Statement (.andRQ r q) := ⟨by cases r <;> cases q <;> rfl, rfl⟩
theorem orRI (r : Sel) (i : Nibble) : Statement (.orRI r i) := ⟨(typeII_fixed _ _ _).trans rfl, rfl⟩
theorem orRQ (r : Sel) (q : Sel) : Statement (.orRQ r q) := ⟨by cases r <;> cases q <;> rfl, rfl⟩
theorem xorRI (r : Sel) (i : Nibble) : Statement (.xorRI r i) := ⟨(typeII_fixed _ _ _).trans rfl, rfl⟩
theorem xorRQ (r : Sel) (q : Sel) : Statement (.xorRQ r q) := ⟨by cases r <;> cases q <;> rfl, rfl⟩
theorem cpRI (r : Sel) (i : Nibble) : Statement (.cpRI r i) := ⟨(typeII_fixed _ _ _).trans rfl, rfl⟩
theorem cpRQ (r : Sel) (q : Sel) : Statement (.cpRQ r q) := ⟨by cases r <;> cases q <;> rfl, rfl⟩
theorem fanRI (r : Sel) (i : Nibble) : Statement (.fanRI r i) := ⟨(typeII_fixed _ _ _).trans rfl, rfl⟩
theorem fanRQ (r : Sel) (q : Sel) : Statement (.fanRQ r q) := ⟨by cases r <;> cases q <;> rfl, rfl⟩
theorem rlc (r : Sel) : Statement (.rlc r) := ⟨by cases r <;> rfl, rfl⟩
theorem rrc (r : Sel) : Statement (.rrc r) := ⟨by cases r <;> rfl, rfl⟩
theorem incMn (n : Nibble) : Statement (.incMn n) := ⟨(typeIV_fixed _ _).trans rfl, rfl⟩
theorem decMn (n : Nibble) : Statement (.decMn n) := ⟨(typeIV_fixed _ _).trans rfl, rfl⟩
theorem acpx (r : Sel) : Statement (.acpx r) := ⟨by cases r <;> rfl, rfl⟩
theorem acpy (r : Sel) : Statement (.acpy r) := ⟨by cases r <;> rfl, rfl⟩
theorem scpx (r : Sel) : Statement (.scpx r) := ⟨by cases r <;> rfl, rfl⟩
theorem scpy (r : Sel) : Statement (.scpy r) := ⟨by cases r <;> rfl, rfl⟩
theorem notR (r : Sel) : Statement (.notR r) := ⟨by cases r <;> rfl, rfl⟩

end Sys2Proof.Laws.MatchesTable
end

