-- ==== Sys2Proof/Tests/Slice0.lean ====
section
/-! SUPPORT. Tests: ill-formed terms, words written out from the encodings of the spec, one step of every instruction
(expected values from the worked examples and vectors of 95_test_vectors.md and of the rules named), and for every obligation with
hypotheses a state and operands that meet them. -/

namespace Sys2Proof.Tests

open Sys2Proof Sys2Proof.Machine Sys2Proof.Config

/-! ## Well-formedness: one ill-formed term for each check (30_encoding.md R100) -/

theorem test_setF_refuses_alias_operands :
    ([1, 2, 4, 8].map fun i => (Instr.setF i).wellFormed) = [false, false, false, false] := by decide
theorem test_rstF_refuses_alias_operands :
    ([7, 0xB, 0xD, 0xE].map fun i => (Instr.rstF i).wellFormed) = [false, false, false, false] := by decide
theorem test_ldpx_a_a_is_ill_formed : (Instr.ldpxRQ .a .a).wellFormed = false := by decide
theorem test_ldpy_a_a_is_ill_formed : (Instr.ldpyRQ .a .a).wellFormed = false := by decide
theorem test_xor_r_15_is_ill_formed : (Instr.xorRI .b 0xF).wellFormed = false := by decide
theorem test_neighbours_are_well_formed :
    ([.setF 3, .rstF 6, .ldpxRQ .a .b, .ldpyRQ .b .a, .xorRI .b 0xE, .scf].map Instr.wellFormed) =
      [true, true, true, true, true, true] := by decide

/-! ## Decoding: for every constructor a word written out from the pattern of its rule -/

theorem test_decode_branch_1 :
    decode 0b111001010011#12 = .ok (.pset 0b10011) ∧
    decode 0b000001011010#12 = .ok (.jp 0b01011010) ∧
    decode 0b001001011010#12 = .ok (.jpC 0b01011010) ∧
    decode 0b001101011010#12 = .ok (.jpNC 0b01011010) ∧
    decode 0b011001011010#12 = .ok (.jpZ 0b01011010) ∧
    decode 0b011101011010#12 = .ok (.jpNZ 0b01011010) ∧
    decode 0b111111101000#12 = .ok .jpba ∧
    decode 0b010001011010#12 = .ok (.call 0b01011010) ∧
    decode 0b010101011010#12 = .ok (.calz 0b01011010) ∧
    decode 0b111111011111#12 = .ok .ret ∧
    decode 0b111111011110#12 = .ok .rets := by decide
theorem test_decode_branch_2 :
    decode 0b000111000011#12 = .ok (.retd 0b11000011) := by decide
theorem test_decode_system_control :
    decode 0b111111111011#12 = .ok .nop5 ∧
    decode 0b111111111111#12 = .ok .nop7 ∧
    decode 0b111111111000#12 = .ok .halt ∧
    decode 0b111111111001#12 = .ok .slp := by decide
theorem test_decode_flag :
    decode 0b111101000110#12 = .ok (.setF 0b0110) ∧
    decode 0b111101010110#12 = .ok (.rstF 0b0110) ∧
    decode 0b111101000001#12 = .ok .scf ∧
    decode 0b111101011110#12 = .ok .rcf ∧
    decode 0b111101000010#12 = .ok .szf ∧
    decode 0b111101011101#12 = .ok .rzf ∧
    decode 0b111101000100#12 = .ok .sdf ∧
    decode 0b111101011011#12 = .ok .rdf ∧
    decode 0b111101001000#12 = .ok .ei ∧
    decode 0b111101010111#12 = .ok .di := by decide
theorem test_decode_stack_1 :
    decode 0b111111000010#12 = .ok (.pushR .mx) ∧
    decode 0b111111000100#12 = .ok .pushXP ∧
    decode 0b111111000101#12 = .ok .pushXH ∧
    decode 0b111111000110#12 = .ok .pushXL ∧
    decode 0b111111000111#12 = .ok .pushYP ∧
    decode 0b111111001000#12 = .ok .pushYH ∧
    decode 0b111111001001#12 = .ok .pushYL ∧
    decode 0b111111001010#12 = .ok .pushF ∧
    decode 0b111111010010#12 = .ok (.popR .mx) ∧
    decode 0b111111010100#12 = .ok .popXP ∧
    decode 0b111111010101#12 = .ok .popXH := by decide
theorem test_decode_stack_2 :
    decode 0b111111010110#12 = .ok .popXL ∧
    decode 0b111111010111#12 = .ok .popYP ∧
    decode 0b111111011000#12 = .ok .popYH ∧
    decode 0b111111011001#12 = .ok .popYL ∧
    decode 0b111111011010#12 = .ok .popF ∧
    decode 0b111111011011#12 = .ok .incSP ∧
    decode 0b111111001011#12 = .ok .decSP ∧
    decode 0b111111100010#12 = .ok (.ldSPHR .mx) ∧
    decode 0b111111110010#12 = .ok (.ldSPLR .mx) ∧
    decode 0b111111100110#12 = .ok (.ldRSPH .mx) ∧
    decode 0b111111110110#12 = .ok (.ldRSPL .mx) := by decide
theorem test_decode_index_1 :
    decode 0b111011100000#12 = .ok .incX ∧
    decode 0b111011110000#12 = .ok .incY ∧
    decode 0b101111000011#12 = .ok (.ldXE 0b11000011) ∧
    decode 0b100011000011#12 = .ok (.ldYE 0b11000011) ∧
    decode 0b111010000010#12 = .ok (.ldXPR .mx) ∧
    decode 0b111010000110#12 = .ok (.ldXHR .mx) ∧
    decode 0b111010001010#12 = .ok (.ldXLR .mx) ∧
    decode 0b111010010010#12 = .ok (.ldYPR .mx) ∧
    decode 0b111010010110#12 = .ok (.ldYHR .mx) ∧
    decode 0b111010011010#12 = .ok (.ldYLR .mx) ∧
    decode 0b111010100010#12 = .ok (.ldRXP .mx) := by decide
theorem test_decode_index_2 :
    decode 0b111010100110#12 = .ok (.ldRXH .mx) ∧
    decode 0b111010101010#12 = .ok (.ldRXL .mx) ∧
    decode 0b111010110010#12 = .ok (.ldRYP .mx) ∧
    decode 0b111010110110#12 = .ok (.ldRYH .mx) ∧
    decode 0b111010111010#12 = .ok (.ldRYL .mx) ∧
    decode 0b101000000110#12 = .ok (.adcXHI 0b0110) ∧
    decode 0b101000010110#12 = .ok (.adcXLI 0b0110) ∧
    decode 0b101000100110#12 = .ok (.adcYHI 0b0110) ∧
    decode 0b101000110110#12 = .ok (.adcYLI 0b0110) ∧
    decode 0b101001000110#12 = .ok (.cpXHI 0b0110) ∧
    decode 0b101001010110#12 = .ok (.cpXLI 0b0110) := by decide
theorem test_decode_index_3 :
    decode 0b101001100110#12 = .ok (.cpYHI 0b0110) ∧
    decode 0b101001110110#12 = .ok (.cpYLI 0b0110) := by decide
theorem test_decode_data_transfer :
    decode 0b111000100110#12 = .ok (.ldRI .mx 0b0110) ∧
    decode 0b111011001001#12 = .ok (.ldRQ .mx .b) ∧
    decode 0b111110101001#12 = .ok (.ldAMn 0b1001) ∧
    decode 0b111110111001#12 = .ok (.ldBMn 0b1001) ∧
    decode 0b111110001001#12 = .ok (.ldMnA 0b1001) ∧
    decode 0b111110011001#12 = .ok (.ldMnB 0b1001) ∧
    decode 0b111001100110#12 = .ok (.ldpxMXI 0b0110) ∧
    decode 0b111011101001#12 = .ok (.ldpxRQ .mx .b) ∧
    decode 0b111001110110#12 = .ok (.ldpyMYI 0b0110) ∧
    decode 0b111011111001#12 = .ok (.ldpyRQ .mx .b) ∧
    decode 0b100111000011#12 = .ok (.lbpx 0b11000011) := by decide
theorem test_decode_arithmetic_1 :
    decode 0b110000100110#12 = .ok (.addRI .mx 0b0110) ∧
    decode 0b101010001001#12 = .ok (.addRQ .mx .b) ∧
    decode 0b110001100110#12 = .ok (.adcRI .mx 0b0110) ∧
    decode 0b101010011001#12 = .ok (.adcRQ .mx .b) ∧
    decode 0b101010101001#12 = .ok (.subRQ .mx .b) ∧
    decode 0b110101100110#12 = .ok (.sbcRI .mx 0b0110) ∧
    decode 0b101010111001#12 = .ok (.sbcRQ .mx .b) ∧
    decode 0b110010100110#12 = .ok (.andRI .mx 0b0110) ∧
    decode 0b101011001001#12 = .ok (.andRQ .mx .b) ∧
    decode 0b110011100110#12 = .ok (.orRI .mx 0b0110) ∧
    decode 0b101011011001#12 = .ok (.orRQ .mx .b) := by decide
theorem test_decode_arithmetic_2 :
    decode 0b110100100110#12 = .ok (.xorRI .mx 0b0110) ∧
    decode 0b101011101001#12 = .ok (.xorRQ .mx .b) ∧
    decode 0b110111100110#12 = .ok (.cpRI .mx 0b0110) ∧
    decode 0b111100001001#12 = .ok (.cpRQ .mx .b) ∧
    decode 0b110110100110#12 = .ok (.fanRI .mx 0b0110) ∧
    decode 0b111100011001#12 = .ok (.fanRQ .mx .b) ∧
    decode 0b101011111010#12 = .ok (.rlc .mx) ∧
    decode 0b111010001110#12 = .ok (.rrc .mx) ∧
    decode 0b111101101001#12 = .ok (.incMn 0b1001) ∧
    decode 0b111101111001#12 = .ok (.decMn 0b1001) ∧
    decode 0b111100101010#12 = .ok (.acpx .mx) := by decide
theorem test_decode_arithmetic_3 :
    decode 0b111100101110#12 = .ok (.acpy .mx) ∧
    decode 0b111100111010#12 = .ok (.scpx .mx) ∧
    decode 0b111100111110#12 = .ok (.scpy .mx) ∧
    decode 0b110100101111#12 = .ok (.notR .mx) := by decide

/-- RLC's two selector fields hold the same value (46_arithmetic.md R267); AF1H, like every word of R101, is unassigned. -/
theorem test_unassigned_words_are_rejected :
    decode 0b101011110001#12 = .error (.rlcFieldsDiffer 0xAF1) ∧ decode 0b111111111010#12 = .error (.unassigned 0xFFA) ∧
    decodeTableWord 16 4096 = none := by decide

/-! ## One step of every instruction -/

/-- The word `w` at the program counter of `s`, one step, and whether the state answered satisfies `p`. -/
def after (w : Word) (s : State) (p : State → Bool) : Bool :=
  match step (s.withFetchWord 16 w.toNat) with
  | .next t => p t
  | _ => false

/-- A state from its general registers, IX, IY, SP, flags and RAM words. -/
def at4 (a b : Nibble) (x y : Addr) (sp : Byte) (f : Nibble) (ram : Memory) : State :=
  { State.reset with
      a := a, b := b, xp := x.extractLsb' 8 4, xh := x.extractLsb' 4 4, xl := x.extractLsb' 0 4
      yp := y.extractLsb' 8 4, yh := y.extractLsb' 4 4, yl := y.extractLsb' 0 4, sp := sp
      fi := f.getLsbD 3, fd := f.getLsbD 2, fz := f.getLsbD 1, fc := f.getLsbD 0, ram := ram }

/-- `s` at the program address `pc`, its NBP:NPP those of the current page. -/
def atPC (pc : ProgAddr) (s : State) : State :=
  { s with
      pcb := pc.extractLsb' 12 1, pcp := pc.extractLsb' 8 4, pcs := pc.extractLsb' 0 8
      nbp := pc.extractLsb' 12 1, npp := pc.extractLsb' 8 4 }

/-- Table 2.1.6.1, 10H. -/
theorem test_pset : after 0xE53 (atPC 0x0110 (at4 0 0 0 0 0 0b0000 []))
    (fun t => t.pc == 0x0111 && t.nbp == 1 && t.npp == 0x3 && t.afterPset == true && t.clocks == 5) = true := by decide
/-- Table 2.1.6.1, 11H. -/
theorem test_jp : after 0x008 ({ atPC 0x0111 (at4 0 0 0 0 0 0b0000 []) with nbp := 0x1, npp := 0x3 })
    (fun t => t.pc == 0x1308 && t.afterPset == false && t.clocks == 5) = true := by decide
/-- BR1: a jump at the last step of a page. -/
theorem test_jp_2 : after 0x020 (atPC 0x03FF (at4 0 0 0 0 0 0b0000 []))
    (fun t => t.pc == 0x0320) = true := by decide
/-- A6, JP C,s. -/
theorem test_jpC : after 0x210 ({ atPC 0x023E (at4 0 0 0 0 0 0b0001 []) with nbp := 0x0, npp := 0x6 })
    (fun t => t.pc == 0x0610) = true := by decide
/-- BR9. -/
theorem test_jpC_2 : after 0x240 (atPC 0x0520 (at4 0 0 0 0 0 0b1110 []))
    (fun t => t.pc == 0x0521) = true := by decide
/-- A6, JP NC,s. -/
theorem test_jpNC : after 0x310 ({ atPC 0x0990 (at4 0 0 0 0 0 0b0000 []) with nbp := 0x1, npp := 0x1 })
    (fun t => t.pc == 0x1110) = true := by decide
/-- BR9. -/
theorem test_jpNC_2 : after 0x340 (atPC 0x0520 (at4 0 0 0 0 0 0b0001 []))
    (fun t => t.pc == 0x0521) = true := by decide
/-- A6, JP Z,s. -/
theorem test_jpZ : after 0x610 ({ atPC 0x0504 (at4 0 0 0 0 0 0b0010 []) with nbp := 0x1, npp := 0xB })
    (fun t => t.pc == 0x1B10) = true := by decide
/-- BR9. -/
theorem test_jpZ_2 : after 0x640 (atPC 0x0520 (at4 0 0 0 0 0 0b1101 []))
    (fun t => t.pc == 0x0521) = true := by decide
/-- A6, JP NZ,s. -/
theorem test_jpNZ : after 0x710 (atPC 0x1007 (at4 0 0 0 0 0 0b0000 []))
    (fun t => t.pc == 0x1010 && t.nbp == 1 && t.npp == 0x0) = true := by decide
/-- BR9. -/
theorem test_jpNZ_2 : after 0x740 (atPC 0x0520 (at4 0 0 0 0 0 0b0010 []))
    (fun t => t.pc == 0x0521) = true := by decide
/-- A6, JPBA. -/
theorem test_jpba : after 0xFE8 ({ atPC 0x0891 (at4 0x6 0 0 0 0 0b0000 []) with nbp := 0x1, npp := 0x5 })
    (fun t => t.pc == 0x1506) = true := by decide
/-- BR11. -/
theorem test_jpba_2 : after 0xFE8 (atPC 0x0620 (at4 0xC 0x3 0 0 0 0b0000 []))
    (fun t => t.pc == 0x063C && t.a == 0xC && t.b == 0x3) = true := by decide
/-- BR4. -/
theorem test_call : after 0x480 (atPC 0x02FF (at4 0 0 0 0 0x40 0b0000 []))
    (fun t => t.pc == 0x0280 && t.sp == 0x3D && t.ramWord 0x03F == 0x3 && t.ramWord 0x03E == 0x0 && t.ramWord 0x03D == 0x0 && t.clocks == 7) = true := by decide
/-- BR5: the bank bit of PSET is ignored. -/
theorem test_call_2 : after 0x433 ({ atPC 0x0211 (at4 0 0 0 0 0x40 0b0000 []) with nbp := 0x1, npp := 0xA })
    (fun t => t.pc == 0x0A33 && t.nbp == 0 && t.npp == 0xA && t.sp == 0x3D && t.ramWord 0x03F == 0x2 && t.ramWord 0x03E == 0x1 && t.ramWord 0x03D == 0x2) = true := by decide
/-- BR6. -/
theorem test_calz : after 0x510 ({ atPC 0x1746 (at4 0 0 0 0 0x40 0b0000 []) with nbp := 0x0, npp := 0xA })
    (fun t => t.pc == 0x1010 && t.nbp == 1 && t.npp == 0x0 && t.sp == 0x3D && t.ramWord 0x03F == 0x7 && t.ramWord 0x03E == 0x4 && t.ramWord 0x03D == 0x7) = true := by decide
/-- BR7a. -/
theorem test_ret : after 0xFDF (atPC 0x0500 (at4 0 0 0 0 0x3D 0b0000 [(0x03D, 0xF), (0x03E, 0xF), (0x03F, 0xF)]))
    (fun t => t.pc == 0x0FFF && t.sp == 0x40 && t.clocks == 7) = true := by decide
/-- BR7b. -/
theorem test_rets : after 0xFDE (atPC 0x0500 (at4 0 0 0 0 0x3D 0b0000 [(0x03D, 0xF), (0x03E, 0xF), (0x03F, 0xF)]))
    (fun t => t.pc == 0x0000 && t.sp == 0x40 && t.clocks == 12) = true := by decide
/-- BR6. -/
theorem test_rets_2 : after 0xFDE (atPC 0x1010 (at4 0 0 0 0 0x3D 0b0000 [(0x03D, 0x7), (0x03E, 0x4), (0x03F, 0x7)]))
    (fun t => t.pc == 0x1748 && t.sp == 0x40) = true := by decide
/-- BR8a. -/
theorem test_retd : after 0x1A7 (atPC 0x0203 (at4 0 0 0x050 0 0x3D 0b0011 [(0x03D, 0x9), (0x03E, 0x0), (0x03F, 0x1)]))
    (fun t => t.pc == 0x0109 && t.sp == 0x40 && t.ramWord 0x050 == 0x7 && t.ramWord 0x051 == 0xA && t.ix == 0x052 && t.f == 0b0011 && t.clocks == 12) = true := by decide
/-- BR8b. -/
theorem test_retd_2 : after 0x15B (atPC 0x0203 (at4 0 0 0x2FF 0 0x3D 0b0000 [(0x03D, 0x9), (0x03E, 0x0), (0x03F, 0x1)]))
    (fun t => t.pc == 0x0109 && t.ramWord 0x2FF == 0xB && t.ramWord 0x200 == 0x5 && t.ix == 0x201) = true := by decide
/-- SC1 and Table 2.1.6.1, 22H. -/
theorem test_nop5 : after 0xFFB ({ atPC 0x0122 (at4 0 0 0 0 0 0b0000 []) with nbp := 0x1, npp := 0x5 })
    (fun t => t.pc == 0x0123 && t.nbp == 0 && t.npp == 0x1 && t.afterPset == false && t.clocks == 5) = true := by decide
/-- BR3a. -/
theorem test_nop5_2 : after 0xFFB (atPC 0x0FFF (at4 0 0 0 0 0 0b0000 []))
    (fun t => t.pc == 0x0000 && t.nbp == 0 && t.npp == 0x0) = true := by decide
/-- SC2. -/
theorem test_nop7 : after 0xFFF (atPC 0x1ABC (at4 0 0 0 0 0 0b0000 []))
    (fun t => t.pc == 0x1ABD && t.clocks == 7) = true := by decide
/-- BR3b. -/
theorem test_nop7_2 : after 0xFFF (atPC 0x1FFF (at4 0 0 0 0 0 0b0000 []))
    (fun t => t.pc == 0x1000 && t.nbp == 1 && t.npp == 0x0) = true := by decide
/-- SC3. -/
theorem test_halt : after 0xFF8 (atPC 0x0300 (at4 0 0 0 0 0x20 0b0000 []))
    (fun t => t.pc == 0x0301 && t.sp == 0x20 && t.run == .halt && t.clocks == 5) = true := by decide
/-- A7, SLP. -/
theorem test_slp : after 0xFF9 (atPC 0x0430 (at4 0 0 0 0 0 0b1000 []))
    (fun t => t.pc == 0x0431 && t.f == 0b1000 && t.run == .sleep && t.clocks == 5) = true := by decide
/-- A4, SET F,0DH. -/
theorem test_setF : after 0xF4D (at4 0 0 0 0 0 0b0011 [])
    (fun t => t.f == 0b1111 && t.eiDelay == true && t.clocks == 7) = true := by decide
/-- F1. -/
theorem test_setF_2 : after 0xF40 (at4 0 0 0 0 0 0b0000 [])
    (fun t => t.f == 0b0000 && t.eiDelay == false) = true := by decide
/-- A4, RST F,2. -/
theorem test_rstF : after 0xF52 (at4 0 0 0 0 0 0b1010 [])
    (fun t => t.f == 0b0010 && t.clocks == 7) = true := by decide
/-- F3. -/
theorem test_rstF_2 : after 0xF5F (at4 0 0 0 0 0 0b1111 [])
    (fun t => t.f == 0b1111 && t.eiDelay == false) = true := by decide
/-- A4, SCF. -/
theorem test_scf : after 0xF41 (at4 0 0 0 0 0 0b0000 [])
    (fun t => t.f == 0b0001 && t.clocks == 7) = true := by decide
/-- F5. -/
theorem test_rcf : after 0xF5E (at4 0 0 0 0 0 0b1111 [])
    (fun t => t.f == 0b1110 && t.clocks == 7) = true := by decide
/-- A4, SZF. -/
theorem test_szf : after 0xF42 (at4 0 0 0 0 0 0b0000 [])
    (fun t => t.f == 0b0010 && t.clocks == 7) = true := by decide
/-- F7. -/
theorem test_rzf : after 0xF5D (at4 0 0 0 0 0 0b1111 [])
    (fun t => t.f == 0b1101 && t.clocks == 7) = true := by decide
/-- A4, SDF. -/
theorem test_sdf : after 0xF44 (at4 0 0 0 0 0 0b0000 [])
    (fun t => t.f == 0b0100 && t.clocks == 7) = true := by decide
/-- F6. -/
theorem test_rdf : after 0xF5B (at4 0 0 0 0 0 0b1111 [])
    (fun t => t.f == 0b1011 && t.clocks == 7) = true := by decide
/-- F9. -/
theorem test_ei : after 0xF48 (at4 0 0 0 0 0 0b0001 [])
    (fun t => t.f == 0b1001 && t.eiDelay == true && t.clocks == 7) = true := by decide
/-- F10: I was already 1 (D13). -/
theorem test_ei_2 : after 0xF48 (at4 0 0 0 0 0 0b1000 [])
    (fun t => t.f == 0b1000 && t.eiDelay == false) = true := by decide
/-- F8. -/
theorem test_di : after 0xF57 (at4 0 0 0 0 0 0b1111 [])
    (fun t => t.f == 0b0111 && t.clocks == 7) = true := by decide
/-- 43_stack.md R165. -/
theorem test_pushR : after 0xFC0 (at4 0x9 0 0 0 0xC0 0b0000 [])
    (fun t => t.ramWord 0x0BF == 0x9 && t.sp == 0xBF && t.clocks == 5) = true := by decide
/-- S1, PUSH MY. -/
theorem test_pushR_2 : after 0xFC3 (at4 0 0 0 0x678 0x0D 0b0000 [(0x678, 0xA)])
    (fun t => t.ramWord 0x00C == 0xA && t.sp == 0x0C) = true := by decide
/-- 43_stack.md R166. -/
theorem test_pushXP : after 0xFC4 (at4 0 0 0x210 0 0x10 0b0000 [])
    (fun t => t.ramWord 0x00F == 0x2 && t.sp == 0x0F && t.clocks == 5) = true := by decide
/-- 43_stack.md R167. -/
theorem test_pushXH : after 0xFC5 (at4 0 0 0x0A0 0 0x10 0b0000 [])
    (fun t => t.ramWord 0x00F == 0xA && t.sp == 0x0F) = true := by decide
/-- 43_stack.md R168. -/
theorem test_pushXL : after 0xFC6 (at4 0 0 0x003 0 0x10 0b0000 [])
    (fun t => t.ramWord 0x00F == 0x3 && t.sp == 0x0F) = true := by decide
/-- 43_stack.md R169: the wrap. -/
theorem test_pushYP : after 0xFC7 (at4 0 0 0 0x100 0x00 0b0000 [])
    (fun t => t.ramWord 0x0FF == 0x1 && t.sp == 0xFF) = true := by decide
/-- 43_stack.md R170. -/
theorem test_pushYH : after 0xFC8 (at4 0 0 0 0x070 0x10 0b0000 [])
    (fun t => t.ramWord 0x00F == 0x7 && t.sp == 0x0F) = true := by decide
/-- 43_stack.md R171. -/
theorem test_pushYL : after 0xFC9 (at4 0 0 0 0x00E 0x10 0b0000 [])
    (fun t => t.ramWord 0x00F == 0xE && t.sp == 0x0F) = true := by decide
/-- 43_stack.md R172. -/
theorem test_pushF : after 0xFCA (at4 0 0 0 0 0x40 0b1010 [])
    (fun t => t.ramWord 0x03F == 0xA && t.sp == 0x3F && t.f == 0b1010) = true := by decide
/-- 43_stack.md R173. -/
theorem test_popR : after 0xFD1 (at4 0 0 0 0 0xBF 0b0000 [(0x0BF, 0x9)])
    (fun t => t.b == 0x9 && t.sp == 0xC0 && t.clocks == 5) = true := by decide
/-- S2, POP MY. -/
theorem test_popR_2 : after 0xFD3 (at4 0 0 0 0x678 0x0C 0b0000 [(0x00C, 0xA)])
    (fun t => t.ramWord 0x678 == 0xA && t.sp == 0x0D) = true := by decide
/-- 43_stack.md R174. -/
theorem test_popXP : after 0xFD4 (at4 0 0 0x045 0 0x0F 0b0000 [(0x00F, 0x2)])
    (fun t => t.ix == 0x245 && t.sp == 0x10 && t.clocks == 5) = true := by decide
/-- 43_stack.md R175. -/
theorem test_popXH : after 0xFD5 (at4 0 0 0x105 0 0x0F 0b0000 [(0x00F, 0xA)])
    (fun t => t.ix == 0x1A5 && t.sp == 0x10) = true := by decide
/-- 43_stack.md R176. -/
theorem test_popXL : after 0xFD6 (at4 0 0 0x110 0 0x0F 0b0000 [(0x00F, 0x3)])
    (fun t => t.ix == 0x113 && t.sp == 0x10) = true := by decide
/-- 43_stack.md R177: the wrap. -/
theorem test_popYP : after 0xFD7 (at4 0 0 0 0x078 0xFF 0b0000 [(0x0FF, 0x1)])
    (fun t => t.iy == 0x178 && t.sp == 0x00) = true := by decide
/-- 43_stack.md R178. -/
theorem test_popYH : after 0xFD8 (at4 0 0 0 0x208 0x0F 0b0000 [(0x00F, 0x7)])
    (fun t => t.iy == 0x278 && t.sp == 0x10) = true := by decide
/-- 43_stack.md R179. -/
theorem test_popYL : after 0xFD9 (at4 0 0 0 0x220 0x0F 0b0000 [(0x00F, 0xE)])
    (fun t => t.iy == 0x22E && t.sp == 0x10) = true := by decide
/-- 43_stack.md R180. -/
theorem test_popF : after 0xFDA (at4 0 0 0 0 0x3F 0b1001 [(0x03F, 0x6)])
    (fun t => t.f == 0b0110 && t.sp == 0x40 && t.eiDelay == false) = true := by decide
/-- S2, POP F (D9). -/
theorem test_popF_2 : after 0xFDA (at4 0 0 0 0 0x05 0b0000 [(0x005, 0xD)])
    (fun t => t.f == 0b1101 && t.sp == 0x06 && t.eiDelay == true) = true := by decide
/-- A5, INC SP. -/
theorem test_incSP : after 0xFDB (at4 0 0 0 0 0xEF 0b0000 [])
    (fun t => t.sp == 0xF0 && t.f == 0b0000 && t.clocks == 5) = true := by decide
/-- 43_stack.md R181, corner. -/
theorem test_incSP_2 : after 0xFDB (at4 0 0 0 0 0xFF 0b0000 [])
    (fun t => t.sp == 0x00) = true := by decide
/-- A5, DEC SP. -/
theorem test_decSP : after 0xFCB (at4 0 0 0 0 0xB1 0b0010 [])
    (fun t => t.sp == 0xB0 && t.f == 0b0010 && t.clocks == 5) = true := by decide
/-- 43_stack.md R182, corner. -/
theorem test_decSP_2 : after 0xFCB (at4 0 0 0 0 0x00 0b0000 [])
    (fun t => t.sp == 0xFF) = true := by decide
/-- S5, LD SPH,A. -/
theorem test_ldSPHR : after 0xFE0 (at4 0x4 0 0 0 0x0C 0b0000 [])
    (fun t => t.sp == 0x4C && t.clocks == 5) = true := by decide
/-- 43_stack.md R184. -/
theorem test_ldSPLR : after 0xFF1 (at4 0 0 0 0 0x4C 0b0000 [])
    (fun t => t.sp == 0x40) = true := by decide
/-- S5, LD SPL,MX. -/
theorem test_ldSPLR_2 : after 0xFF2 (at4 0 0 0x020 0 0x40 0b0000 [(0x020, 0xC)])
    (fun t => t.sp == 0x4C) = true := by decide
/-- 43_stack.md R185. -/
theorem test_ldRSPH : after 0xFE4 (at4 0 0 0 0 0xB7 0b0000 [])
    (fun t => t.a == 0xB && t.sp == 0xB7) = true := by decide
/-- 43_stack.md R186. -/
theorem test_ldRSPL : after 0xFF6 (at4 0 0 0x020 0 0xB7 0b0000 [])
    (fun t => t.ramWord 0x020 == 0x7 && t.ix == 0x020) = true := by decide
/-- A5, INC X. -/
theorem test_incX : after 0xEE0 (at4 0 0 0x0FE 0 0 0b0001 [])
    (fun t => t.ix == 0x0FF && t.f == 0b0001 && t.clocks == 5) = true := by decide
/-- I3. -/
theorem test_incX_2 : after 0xEE0 (at4 0 0 0x3FF 0 0 0b0010 [])
    (fun t => t.ix == 0x300 && t.f == 0b0010) = true := by decide
/-- A5, INC Y. -/
theorem test_incY : after 0xEF0 (at4 0 0 0 0x0B7 0 0b0001 [])
    (fun t => t.iy == 0x0B8 && t.f == 0b0001 && t.clocks == 5) = true := by decide
/-- I3. -/
theorem test_incY_2 : after 0xEF0 (at4 0 0 0 0x7FF 0 0b0010 [])
    (fun t => t.iy == 0x700 && t.f == 0b0010) = true := by decide
/-- I1. -/
theorem test_ldXE : after 0xB7E (at4 0 0 0x300 0 0 0b0011 [])
    (fun t => t.ix == 0x37E && t.f == 0b0011 && t.clocks == 5) = true := by decide
/-- I1. -/
theorem test_ldYE : after 0x8C1 (at4 0 0 0 0x400 0 0b0011 [])
    (fun t => t.iy == 0x4C1 && t.f == 0b0011 && t.clocks == 5) = true := by decide
/-- I1. -/
theorem test_ldXPR : after 0xE80 (at4 0x5 0 0x37E 0 0 0b0000 [])
    (fun t => t.ix == 0x57E && t.clocks == 5) = true := by decide
/-- I1. -/
theorem test_ldXHR : after 0xE85 (at4 0 0xA 0x57E 0 0 0b0000 [])
    (fun t => t.ix == 0x5AE) = true := by decide
/-- I1. -/
theorem test_ldXLR : after 0xE88 (at4 0x5 0 0x5AE 0 0 0b0000 [])
    (fun t => t.ix == 0x5A5) = true := by decide
/-- 44_index.md R201. -/
theorem test_ldXLR_2 : after 0xE8B (at4 0 0 0x5AE 0x030 0 0b0000 [(0x030, 0x5)])
    (fun t => t.ix == 0x5A5) = true := by decide
/-- I1. -/
theorem test_ldYPR : after 0xE91 (at4 0 0xA 0 0x4C1 0 0b0000 [])
    (fun t => t.iy == 0xAC1) = true := by decide
/-- I1. -/
theorem test_ldYHR : after 0xE94 (at4 0x5 0 0 0xAC1 0 0b0000 [])
    (fun t => t.iy == 0xA51) = true := by decide
/-- I1. -/
theorem test_ldYLR : after 0xE99 (at4 0 0xA 0 0xA51 0 0b0000 [])
    (fun t => t.iy == 0xA5A) = true := by decide
/-- I2. -/
theorem test_ldRXP : after 0xEA0 (at4 0 0 0x5A3 0 0 0b0000 [])
    (fun t => t.a == 0x5 && t.clocks == 5) = true := by decide
/-- I2. -/
theorem test_ldRXH : after 0xEA5 (at4 0 0 0x5A3 0 0 0b0000 [])
    (fun t => t.b == 0xA) = true := by decide
/-- I2. -/
theorem test_ldRXL : after 0xEAA (at4 0 0 0x5A3 0 0 0b0000 [(0x5A3, 0x0)])
    (fun t => t.ramWord 0x5A3 == 0x3 && t.ix == 0x5A3) = true := by decide
/-- I2. -/
theorem test_ldRYP : after 0xEB0 (at4 0 0 0 0x9C4 0 0b0000 [])
    (fun t => t.a == 0x9) = true := by decide
/-- I2. -/
theorem test_ldRYH : after 0xEB5 (at4 0 0 0 0x9C4 0 0b0000 [])
    (fun t => t.b == 0xC) = true := by decide
/-- I2. -/
theorem test_ldRYL : after 0xEBB (at4 0 0 0 0x9C4 0 0b0000 [(0x9C4, 0x0)])
    (fun t => t.ramWord 0x9C4 == 0x4) = true := by decide
/-- A1, ADC XH,2. -/
theorem test_adcXHI : after 0xA02 (at4 0 0 0x090 0 0 0b0001 [])
    (fun t => t.ix == 0x0C0 && t.f == 0b0000 && t.clocks == 7) = true := by decide
/-- I5: no decimal correction. -/
theorem test_adcXHI_2 : after 0xA02 (at4 0 0 0x090 0 0 0b0100 [])
    (fun t => t.ix == 0x0B0 && t.f == 0b0100) = true := by decide
/-- A1, ADC XL,0EH. -/
theorem test_adcXLI : after 0xA1E (at4 0 0 0x004 0 0 0b0000 [])
    (fun t => t.ix == 0x002 && t.f == 0b0001) = true := by decide
/-- I4. -/
theorem test_adcXLI_2 : after 0xA15 (at4 0 0 0x2FD 0 0 0b0000 [])
    (fun t => t.ix == 0x2F2 && t.f == 0b0001) = true := by decide
/-- A1, ADC YH,6. -/
theorem test_adcYHI : after 0xA26 (at4 0 0 0 0x0E0 0 0b0000 [])
    (fun t => t.iy == 0x040 && t.f == 0b0001) = true := by decide
/-- A1, ADC YL,2. -/
theorem test_adcYLI : after 0xA32 (at4 0 0 0 0x00E 0 0b0000 [])
    (fun t => t.iy == 0x000 && t.f == 0b0011) = true := by decide
/-- A2, CP XH,4. -/
theorem test_cpXHI : after 0xA44 (at4 0 0 0x040 0 0 0b0000 [])
    (fun t => t.ix == 0x040 && t.f == 0b0010 && t.clocks == 7) = true := by decide
/-- I6. -/
theorem test_cpXHI_2 : after 0xA45 (at4 0 0 0x030 0 0 0b0100 [])
    (fun t => t.ix == 0x030 && t.f == 0b0101) = true := by decide
/-- A2, CP XL,0AH. -/
theorem test_cpXLI : after 0xA5A (at4 0 0 0x009 0 0 0b0010 [])
    (fun t => t.ix == 0x009 && t.f == 0b0001) = true := by decide
/-- A2, CP YH,3. -/
theorem test_cpYHI : after 0xA63 (at4 0 0 0 0x0A0 0 0b0010 [])
    (fun t => t.iy == 0x0A0 && t.f == 0b0000) = true := by decide
/-- A2, CP YL,5. -/
theorem test_cpYLI : after 0xA75 (at4 0 0 0 0x004 0 0b0010 [])
    (fun t => t.iy == 0x004 && t.f == 0b0001) = true := by decide
/-- T1. -/
theorem test_ldRI : after 0xE0C (at4 0 0 0 0 0 0b0011 [])
    (fun t => t.a == 0xC && t.f == 0b0011 && t.clocks == 5) = true := by decide
/-- T1. -/
theorem test_ldRI_2 : after 0xE29 (at4 0 0 0x120 0 0 0b0000 [])
    (fun t => t.ramWord 0x120 == 0x9 && t.ix == 0x120) = true := by decide
/-- T1, LD B,MX. -/
theorem test_ldRQ : after 0xEC6 (at4 0x3 0x3 0x120 0 0 0b0000 [(0x120, 0x9)])
    (fun t => t.a == 0x3 && t.b == 0x9 && t.clocks == 5) = true := by decide
/-- T1, LD MY,A. -/
theorem test_ldRQ_2 : after 0xECC (at4 0x3 0 0 0x230 0 0b0000 [(0x230, 0x1)])
    (fun t => t.ramWord 0x230 == 0x3 && t.a == 0x3) = true := by decide
/-- T2; RP of 10_state.md R27. -/
theorem test_ldAMn : after 0xFAF (at4 0x5 0xE 0 0 0 0b0000 [(0x00F, 0xE)])
    (fun t => t.a == 0xE && t.rp == 0xF && t.clocks == 5) = true := by decide
/-- T2. -/
theorem test_ldBMn : after 0xFB0 (at4 0 0 0x7FF 0 0 0b0000 [(0x000, 0x5)])
    (fun t => t.b == 0x5 && t.rp == 0x0) = true := by decide
/-- T2. -/
theorem test_ldMnA : after 0xF80 (at4 0x5 0 0 0 0 0b0000 [])
    (fun t => t.ramWord 0x000 == 0x5 && t.clocks == 5) = true := by decide
/-- 45_data_transfer.md R230. -/
theorem test_ldMnB : after 0xF97 (at4 0 0x2 0 0xF00 0 0b0000 [])
    (fun t => t.ramWord 0x007 == 0x2 && t.rp == 0x7) = true := by decide
/-- T3. -/
theorem test_ldpxMXI : after 0xE6A (at4 0 0 0x1FE 0 0 0b0011 [])
    (fun t => t.ramWord 0x1FE == 0xA && t.ix == 0x1FF && t.f == 0b0011 && t.clocks == 5) = true := by decide
/-- T3, LDPX MX,A. -/
theorem test_ldpxRQ : after 0xEE8 (at4 0x7 0 0x1FF 0 0 0b0011 [])
    (fun t => t.ramWord 0x1FF == 0x7 && t.ix == 0x100 && t.f == 0b0011) = true := by decide
/-- T3, LDPX B,MX. -/
theorem test_ldpxRQ_2 : after 0xEE6 (at4 0 0 0x100 0 0 0b0000 [(0x100, 0x4)])
    (fun t => t.b == 0x4 && t.ix == 0x101) = true := by decide
/-- 45_data_transfer.md R233. -/
theorem test_ldpyMYI : after 0xE73 (at4 0 0 0 0x1FF 0 0b0000 [])
    (fun t => t.ramWord 0x1FF == 0x3 && t.iy == 0x100) = true := by decide
/-- T3, LDPY A,MY. -/
theorem test_ldpyRQ : after 0xEF3 (at4 0 0 0 0x2FF 0 0b0000 [(0x2FF, 0xB)])
    (fun t => t.a == 0xB && t.iy == 0x200) = true := by decide
/-- 45_data_transfer.md R234. -/
theorem test_ldpyRQ_2 : after 0xEFD (at4 0 0x8 0 0x040 0 0b0000 [])
    (fun t => t.ramWord 0x040 == 0x8 && t.iy == 0x041) = true := by decide
/-- T4. -/
theorem test_lbpx : after 0x912 (at4 0 0 0x010 0 0 0b0000 [])
    (fun t => t.ramWord 0x010 == 0x2 && t.ramWord 0x011 == 0x1 && t.ix == 0x012 && t.clocks == 5) = true := by decide
/-- T6. -/
theorem test_lbpx_2 : after 0x95B (at4 0 0 0x2FF 0 0 0b0011 [])
    (fun t => t.ramWord 0x2FF == 0xB && t.ramWord 0x200 == 0x5 && t.ix == 0x201 && t.f == 0b0011) = true := by decide
/-- A1, ADD A,5. -/
theorem test_addRI : after 0xC05 (at4 0xA 0 0 0 0 0b0001 [])
    (fun t => t.a == 0xF && t.f == 0b0000 && t.clocks == 7) = true := by decide
/-- 40_branch.md R122, ADD A,8. -/
theorem test_addRI_2 : after 0xC08 (at4 0x8 0 0 0 0 0b0000 [])
    (fun t => t.a == 0x0 && t.f == 0b0011) = true := by decide
/-- A1, ADD MX,B. -/
theorem test_addRQ : after 0xA89 (at4 0 0x4 0x020 0 0 0b0011 [(0x020, 0x7)])
    (fun t => t.ramWord 0x020 == 0xB && t.f == 0b0000) = true := by decide
/-- DM5, decimal. -/
theorem test_addRQ_2 : after 0xA81 (at4 0x9 0x1 0 0 0 0b0100 [])
    (fun t => t.a == 0x0 && t.f == 0b0111) = true := by decide
/-- DM11, decimal. -/
theorem test_adcRI : after 0xC49 (at4 0x3 0 0 0 0 0b0101 [])
    (fun t => t.a == 0x3 && t.f == 0b0101) = true := by decide
/-- A1, ADC MX,3. -/
theorem test_adcRI_2 : after 0xC63 (at4 0 0 0x020 0 0 0b0011 [(0x020, 0x4)])
    (fun t => t.ramWord 0x020 == 0x8 && t.f == 0b0000) = true := by decide
/-- A1, ADC MY,A. -/
theorem test_adcRQ : after 0xA9C (at4 0x5 0 0 0x030 0 0b0001 [(0x030, 0xB)])
    (fun t => t.ramWord 0x030 == 0x1 && t.f == 0b0001) = true := by decide
/-- AL2. -/
theorem test_adcRQ_2 : after 0xA91 (at4 0xF 0xF 0 0 0 0b0001 [])
    (fun t => t.a == 0xF && t.f == 0b0001) = true := by decide
/-- A2, SUB A,B. -/
theorem test_subRQ : after 0xAA1 (at4 0xC 0x3 0 0 0 0b0001 [])
    (fun t => t.a == 0x9 && t.f == 0b0000 && t.clocks == 7) = true := by decide
/-- DM12, decimal. -/
theorem test_subRQ_2 : after 0xAA1 (at4 0x3 0x5 0 0 0 0b0100 [])
    (fun t => t.a == 0x8 && t.f == 0b0101) = true := by decide
/-- A2, SBC MY,0DH. -/
theorem test_sbcRI : after 0xD7D (at4 0 0 0 0x030 0 0b0001 [(0x030, 0xE)])
    (fun t => t.ramWord 0x030 == 0x0 && t.f == 0b0010) = true := by decide
/-- DM20, decimal. -/
theorem test_sbcRI_2 : after 0xD44 (at4 0x3 0 0 0 0 0b0101 [])
    (fun t => t.a == 0x8 && t.f == 0b0101) = true := by decide
/-- A2, SBC MY,MX. -/
theorem test_sbcRQ : after 0xABE (at4 0 0 0x020 0x030 0 0b0000 [(0x020, 0x9), (0x030, 0x4)])
    (fun t => t.ramWord 0x030 == 0xB && t.ramWord 0x020 == 0x9 && t.f == 0b0001) = true := by decide
/-- AL7. -/
theorem test_sbcRQ_2 : after 0xAB1 (at4 0 0 0 0 0 0b0001 [])
    (fun t => t.a == 0xF && t.f == 0b0001) = true := by decide
/-- A3, AND MX,3. -/
theorem test_andRI : after 0xCA3 (at4 0 0 0x020 0 0 0b0001 [(0x020, 0x8)])
    (fun t => t.ramWord 0x020 == 0x0 && t.f == 0b0011) = true := by decide
/-- A3, AND B,MY. -/
theorem test_andRQ : after 0xAC7 (at4 0 0xB 0 0x030 0 0b0000 [(0x030, 0x2)])
    (fun t => t.b == 0x2 && t.f == 0b0000) = true := by decide
/-- AL12. -/
theorem test_orRI : after 0xCD4 (at4 0 0xA 0 0 0 0b0000 [])
    (fun t => t.b == 0xE && t.f == 0b0000) = true := by decide
/-- AL10. -/
theorem test_orRQ : after 0xAD1 (at4 0x5 0xA 0 0 0 0b0001 [])
    (fun t => t.a == 0xF && t.f == 0b0001) = true := by decide
/-- A3, XOR A,12. -/
theorem test_xorRI : after 0xD0C (at4 0x6 0 0 0 0 0b0000 [])
    (fun t => t.a == 0xA && t.f == 0b0000) = true := by decide
/-- A3, XOR MX,B. -/
theorem test_xorRQ : after 0xAE9 (at4 0 0xF 0x020 0 0 0b0000 [(0x020, 0x7)])
    (fun t => t.ramWord 0x020 == 0x8 && t.f == 0b0000) = true := by decide
/-- A2, CP MX,7. -/
theorem test_cpRI : after 0xDE7 (at4 0 0 0x020 0 0 0b0010 [(0x020, 0x2)])
    (fun t => t.ramWord 0x020 == 0x2 && t.f == 0b0001) = true := by decide
/-- A2, CP MY,A. -/
theorem test_cpRQ : after 0xF0C (at4 0x8 0 0 0x030 0 0b0000 [(0x030, 0x7)])
    (fun t => t.ramWord 0x030 == 0x7 && t.a == 0x8 && t.f == 0b0001) = true := by decide
/-- DM22: a compare is not corrected. -/
theorem test_cpRQ_2 : after 0xF01 (at4 0x3 0x5 0 0 0 0b0100 [])
    (fun t => t.a == 0x3 && t.f == 0b0101) = true := by decide
/-- A3, FAN A,7. -/
theorem test_fanRI : after 0xD87 (at4 0x8 0 0 0 0 0b0001 [])
    (fun t => t.a == 0x8 && t.f == 0b0011) = true := by decide
/-- A3, FAN MX,B. -/
theorem test_fanRQ : after 0xF19 (at4 0 0xA 0x020 0 0 0b0000 [(0x020, 0x5)])
    (fun t => t.b == 0xA && t.ramWord 0x020 == 0x5 && t.f == 0b0010) = true := by decide
/-- RT1, Z not written. -/
theorem test_rlc : after 0xAF0 ({ at4 0x8 0 0 0 0 0b0000 [] with dev := { Device.standard with rotateZ := .keeps } })
    (fun t => t.a == 0x0 && t.f == 0b0001) = true := by decide
/-- RT7, Z written. -/
theorem test_rlc_2 : after 0xAFF ({ at4 0 0 0 0x030 0 0b0011 [(0x030, 0xF)] with dev := { Device.standard with rotateZ := .writes } })
    (fun t => t.ramWord 0x030 == 0xF && t.f == 0b0001) = true := by decide
/-- RT9, Z written. -/
theorem test_rrc : after 0xE8D ({ at4 0 0x1 0 0 0 0b0000 [] with dev := { Device.standard with rotateZ := .writes } })
    (fun t => t.b == 0x0 && t.f == 0b0011) = true := by decide
/-- A3, RRC MY; Z is free under the default. -/
theorem test_rrc_2 : after 0xE8F (at4 0 0 0 0x030 0 0b0001 [(0x030, 0xA)])
    (fun t => t.ramWord 0x030 == 0xD && t.fc == false) = true := by decide
/-- A1, INC M3. -/
theorem test_incMn : after 0xF63 (at4 0 0 0 0 0 0b0000 [(0x003, 0xF)])
    (fun t => t.ramWord 0x003 == 0x0 && t.f == 0b0011 && t.rp == 0x3 && t.clocks == 7) = true := by decide
/-- A2, DEC M2. -/
theorem test_decMn : after 0xF72 (at4 0 0 0 0 0 0b0000 [(0x002, 0x0)])
    (fun t => t.ramWord 0x002 == 0xF && t.f == 0b0001 && t.rp == 0x2) = true := by decide
/-- A1, ACPX MX,A. -/
theorem test_acpx : after 0xF28 (at4 0x8 0 0x0A0 0x046 0 0b0001 [(0x0A0, 0x6)])
    (fun t => t.ramWord 0x0A0 == 0xF && t.ix == 0x0A1 && t.f == 0b0000 && t.clocks == 7) = true := by decide
/-- AL22. -/
theorem test_acpx_2 : after 0xF2A (at4 0 0 0x3FF 0 0 0b0001 [(0x3FF, 0xE)])
    (fun t => t.ramWord 0x3FF == 0xD && t.f == 0b0001 && t.ix == 0x300) = true := by decide
/-- A1, ACPY MY,MX. -/
theorem test_acpy : after 0xF2E (at4 0 0 0x021 0x00F 0 0b0000 [(0x00F, 0x4), (0x021, 0x6)])
    (fun t => t.ramWord 0x00F == 0xA && t.iy == 0x010 && t.f == 0b0000) = true := by decide
/-- A2, SCPX MX,B. -/
theorem test_scpx : after 0xF39 (at4 0 0x2 0x050 0 0 0b0000 [(0x050, 0x6)])
    (fun t => t.ramWord 0x050 == 0x4 && t.ix == 0x051 && t.f == 0b0000) = true := by decide
/-- A2, SCPY MY,A. -/
theorem test_scpy : after 0xF3C (at4 0x2 0 0 0x0FF 0 0b0011 [(0x0FF, 0x7)])
    (fun t => t.ramWord 0x0FF == 0x4 && t.iy == 0x000 && t.f == 0b0000) = true := by decide
/-- DM21, decimal. -/
theorem test_scpy_2 : after 0xF3C (at4 0x6 0 0 0x050 0 0b0101 [(0x050, 0x0)])
    (fun t => t.ramWord 0x050 == 0x3 && t.iy == 0x051 && t.f == 0b0101) = true := by decide
/-- DM22: DEC Mn is not corrected. -/
theorem test_decMn_2 : after 0xF75 (at4 0 0 0 0 0 0b0100 [(0x005, 0x0)])
    (fun t => t.ramWord 0x005 == 0xF && t.f == 0b0101) = true := by decide
/-- AL13. -/
theorem test_notR : after 0xD0F (at4 0xF 0 0 0 0 0b0001 [])
    (fun t => t.a == 0x0 && t.f == 0b0011) = true := by decide
/-- AL15. -/
theorem test_notR_2 : after 0xD2F (at4 0 0 0x020 0 0 0b0000 [(0x020, 0x0)])
    (fun t => t.ramWord 0x020 == 0xF && t.f == 0b0000) = true := by decide

/-! ## Whole steps (60_exceptions.md R304 to R309, 95_test_vectors.md section B9) -/

/-- A halted core with I = 1 and SP = 40H in page 1, step 34H, and the inputs to come (95_test_vectors.md A7). -/
def halted (l : List Input) : State :=
  { atPC 0x134 (at4 0 0 0 0 0x40 0b1000 []) with run := .halt, inputs := l }

/-- A7, HALT: the interrupt with vector CH. -/
theorem test_interrupt_leaves_halt :
    (match step (halted [.request 0xC]) with
      | .next t => t.pc == 0x10C && t.sp == 0x3D && t.ramWord 0x03F == 1 && t.ramWord 0x03E == 3 && t.ramWord 0x03D == 4 &&
          t.f == 0 && t.run == .run
      | _ => false) = true := by decide

/-- X1: EI ends with the request turned away; the next instruction ends in the entry. -/
theorem test_ei_delay :
    (match Host.Core.run Sys2Proof.core 2 { atPC 0x220 (at4 0 0 0 0 0x40 0 []) with
        inputs := [.request 5, .request 5]
        dev := { Device.standard with rom := [(0x220, 0xF48), (0x221, 0xFFB)] } } with
      | .next t => t.pc == 0x105 && t.sp == 0x3D && t.ramWord 0x03F == 2 && t.ramWord 0x03E == 2 &&
          t.ramWord 0x03D == 2 && t.f == 0 && t.inputs == []
      | _ => false) = true := by decide

/-- R344: a reset brings the core out of a stop of the model; a request before it is not taken. -/
theorem test_reset_leaves_a_stop :
    (match step { State.reset with pcs := 0x77, inputs := [.request 3, .quiet, .reset, .quiet] } with
      | .next t => t.pc == 0x100 && t.inputs == [.quiet] && t.ramEpoch == 1
      | _ => false) = true := by decide

/-- The device of R302's example: the factor flags at F00H (bits 0 and 1) are cleared by reading, the mask register at F10H
stores two bits. -/
def flagsAndMask : Device :=
  { Device.standard with
      ramMap := [⟨0x000, 0x100, .ram⟩, ⟨0xF00, 0x80, .io⟩]
      io := { model := 1
              rules := [⟨false, 0xF00, [], 0, 0, 0b1111, [⟨0xF00, 0b1100, 0, 0⟩]⟩,
                ⟨true, 0xF10, [], 0, 0, 0, [⟨0xF10, 0, 0b0011, 0⟩]⟩, ⟨false, 0xF10, [], 0, 0, 0b1111, []⟩]
              atReset := [(0xF00, 0b0011)] } }

/-- A core in that device, IX at the factor flags. -/
def withFlags : State := { State.powerOn flagsAndMask 0 with xp := 0xF }

theorem test_read_clears_the_factor_flags :
    (match exec (.ldRQ .a .mx) withFlags with
      | .next t => t.a == 0b0011 && t.word 0xF00 == 0
      | _ => false) = true := by decide
theorem test_mask_register_stores_two_bits :
    (match exec (.ldRI .mx 0b1110) { withFlags with xh := 1 } with
      | .next t => t.word 0xF10 == 0b0010
      | _ => false) = true := by decide

/-- An unassigned word made an instruction of the device's own: A and B change places, in 6 clocks. -/
theorem test_own_instruction_swaps :
    (match step { State.reset with
        a := 3, b := 9
        dev := { Device.standard with
          rom := [(0x100, 0xED0)]
          unassigned := [(0xED0, .own [.copy .temp .a, .acts (.ldRQ .a .b), .copy .b .temp] 6)] } } with
      | .next t => t.a == 9 && t.b == 3 && t.clocks == 6 && t.pc == 0x101
      | _ => false) = true := by decide
/-- A skip: SP becomes 20H if C is set, 21H if not. -/
theorem test_own_instruction_skips :
    ([false, true].map fun c =>
      match runSteps [.put .sph 2, .skip .f 1 1 2, .put .spl 1, .skip .f 0 0 1, .put .spl 0] 0 0 { State.reset with fc := c } with
      | .next t => t.sp
      | _ => 0) = [0x21, 0x20] := by decide

/-- A read of a peripheral register is recorded and is a free value; a write is recorded (20_memory.md R73). -/
theorem test_io_access_is_recorded :
    (match exec (.addRI .mx 1)
        { at4 0 0 0xF00 0 0 0 [] with dev := { Device.standard with ramMap := [⟨0xF00, 0x80, .io⟩] } } with
      | .next t => t.ioTrace.length == 2 && t.ioTrace.getLast? == some (.read 0xF00) && t.draws == 1
      | _ => false) = true := by decide

/-! ## The hypotheses of the obligations are met -/

/-- A device with RAM at 000H to 0FFH, peripheral registers at F00H to FFFH and nothing between. -/
def holes : Device := { Device.standard with ramMap := [⟨0x000, 0x100, .ram⟩, ⟨0xF00, 0x100, .io⟩] }

/-- A working state: A = 9, B = 10, IX = 020H holding 9, IY = 030H holding 10, SP = 40H, I = D = Z = C = 0. -/
def plain : State := at4 9 10 0x020 0x030 0x40 0 [(0x020, 9), (0x030, 10)]

/-- The same in decimal mode. -/
def decimal : State := { plain with fd := true }

/-- The program words `l` in ROM. -/
def withRom (l : List (Nat × Word)) (s : State) : State := { s with dev := { s.dev with rom := l } }

/-- JP 08H at the reset address. -/
def jumping : State := withRom [(0x100, 0x008)] State.reset

theorem witness_DecodeEncodeAgree : (Instr.setF 3).wellFormed = true ∧ (Instr.jp 0xFF).wellFormed = true := by decide
theorem witness_EncodeDecodeAgree : decode 0x000 = .ok (.jp 0) ∧ decode 0xFFF = .ok .nop7 := by decide

theorem witness_StepRunsDecodedInstruction :
    Fetches jumping (.jp 8) ∧ (∃ t, exec (.jp 8) jumping.advance = .next t ∧ t.inputs = []) :=
  ⟨⟨rfl, 0x008, by decide, by decide, by decide⟩, _, rfl, rfl⟩
theorem witness_StepRunsDecodedInstruction_fault :
    let s := { withRom [(0x100, 0xEC2)] State.reset with dev := { holes with rom := [(0x100, 0xEC2)] }, xp := 1 }
    Fetches s (.ldRQ .a .mx) ∧ exec (.ldRQ .a .mx) s.advance = .fault (.absentDataAddress 0x100) ∧
      ∀ x ∈ s.inputs, x ≠ .reset :=
  ⟨⟨rfl, 0xEC2, by decide, by decide, by decide⟩, rfl, by decide⟩

theorem witness_FetchStops_no_word :
    State.reset.run = .run ∧ Cells.lookup State.reset.dev.rom State.reset.pc.toNat = none ∧
      ∀ x ∈ State.reset.inputs, x ≠ .reset := by decide
theorem witness_FetchStops_excluded :
    let s := { jumping with dev := { jumping.dev with excluded := [(0x008, 0x008)] } }
    Cells.lookup s.dev.rom s.pc.toNat = some 0x008 ∧ excludedWord s.dev.excluded 0x008 = true ∧
      treatmentOf s.dev.unassigned 0x008 = none ∧ ∀ x ∈ s.inputs, x ≠ .reset := by decide
theorem witness_FetchStops_unassigned :
    let s := withRom [(0x100, 0xAF1)] State.reset
    Cells.lookup s.dev.rom s.pc.toNat = some 0xAF1 ∧ excludedWord s.dev.excluded 0xAF1 = false ∧
      (decode 0xAF1).toOption = none ∧ treatmentOf s.dev.unassigned 0xAF1 = none ∧ ∀ x ∈ s.inputs, x ≠ .reset := by decide
theorem witness_FetchStops_treated :
    let s := { State.reset with dev := { Device.standard with rom := [(0x100, 0xAF1)], unassigned := [(0xAF1, .secondCode .nop5)] } }
    Cells.lookup s.dev.rom s.pc.toNat = some 0xAF1 ∧ (decode 0xAF1).toOption = none ∧
      treatmentOf s.dev.unassigned 0xAF1 = some (.secondCode .nop5) := by decide

theorem witness_ResetState_presented :
    (halted [.reset]).inputs = .reset :: [] ∧ { jumping with inputs := [.reset, .quiet] }.inputs = .reset :: [.quiet] := by
  decide
theorem witness_ResetState_no_word :
    let s := { State.reset with inputs := [.quiet, .request 15, .reset, .quiet] }
    s.inputs = [.quiet, .request 15] ++ .reset :: [.quiet] ∧ (∀ x ∈ [Input.quiet, .request 15], x ≠ .reset) ∧ s.run = .run ∧
      Cells.lookup s.dev.rom s.pc.toNat = none := by decide
theorem witness_ResetState_instruction :
    let s := { State.reset with dev := { holes with rom := [(0x100, 0xEC2)] }, xp := 1, inputs := [.reset] }
    s.inputs = [] ++ .reset :: [] ∧ ∃ i f, Fetches s i ∧ exec i s.advance = .fault f :=
  ⟨rfl, .ldRQ .a .mx, _, ⟨rfl, 0xEC2, by decide, by decide, by decide⟩, rfl⟩
theorem witness_ResetState_unassigned :
    let s := { withRom [(0x100, 0xAF1)] State.reset with inputs := [.request 15, .reset] }
    s.run = .run ∧ Cells.lookup s.dev.rom s.pc.toNat = some 0xAF1 ∧ (decode 0xAF1).toOption = none ∧
      treatmentOf s.dev.unassigned 0xAF1 = none ∧ s.inputs = [.request 15] ++ .reset :: [] := by decide
theorem witness_ResetState_excluded :
    let s := { State.reset with
      dev := { Device.standard with rom := [(0x100, 0xFFB)], excluded := [(0xFFB, 0xFFB)] }, inputs := [.reset] }
    s.run = .run ∧ Cells.lookup s.dev.rom s.pc.toNat = some 0xFFB ∧ excludedWord s.dev.excluded 0xFFB = true ∧
      treatmentOf s.dev.unassigned 0xFFB = none ∧ s.inputs = [] ++ .reset :: [] := by decide
theorem witness_ResetState_entry_after_instruction :
    let s := { State.reset with
      dev := { Device.standard with rom := [(0x100, 0xFFB)], ramMap := [] }, fi := true, inputs := [.request 1, .reset] }
    Fetches s .nop5 ∧ s.fi = true ∧ s.inputs = [.request 1] ++ .reset :: [] ∧
      ∃ t, exec .nop5 s.advance = .next t ∧ t.fi = true ∧ ¬ t.pushRoom :=
  ⟨⟨rfl, 0xFFB, by decide, by decide, by decide⟩, rfl, rfl, _, rfl, rfl, fun h => absurd h.1 (by decide)⟩
theorem witness_ResetState_treated :
    let s := { State.reset with
      dev := { Device.standard with rom := [(0x100, 0xAF1)], unassigned := [(0xAF1, .own [.acts .pushF] 5)], ramMap := [] }
      inputs := [.reset] }
    Cells.lookup s.dev.rom s.pc.toNat = some 0xAF1 ∧ (decode 0xAF1).toOption = none ∧
      treatmentOf s.dev.unassigned 0xAF1 = some (.own [.acts .pushF] 5) ∧
      ∃ f, executeWord (.own [.acts .pushF] 5) s.advance = .fault f :=
  ⟨by decide, by decide, by decide, _, rfl⟩
theorem witness_ResetState_entry_after_treated :
    let d : Treatment := .own [.put .f 8] 7
    let s := { State.reset with
      dev := { Device.standard with rom := [(0x100, 0xAF1)], unassigned := [(0xAF1, d)], ramMap := [] }
      fi := true, inputs := [.request 15, .reset] }
    treatmentOf s.dev.unassigned 0xAF1 = some d ∧ s.inputs = [.request 15] ++ .reset :: [] ∧
      ∃ t, executeWord d s.advance = .next t ∧ (finishWord d s.advance t).accepts 15 = true ∧ ¬ t.pushRoom :=
  ⟨by decide, rfl, _, rfl, by decide, fun h => absurd h.1 (by decide)⟩
theorem witness_ResetState_entry :
    let s := { halted [.request 1, .reset] with dev := { Device.standard with ramMap := [] } }
    s.inputs = [.request 1] ++ .reset :: [] ∧ (∀ x ∈ [Input.request 1], x ≠ .reset) ∧ s.run ≠ .run ∧ s.fi = true ∧
      ¬ s.pushRoom ∧ ∃ v l, v ≠ 0 ∧ [Input.request 1] = .request v :: l :=
  ⟨rfl, by decide, by decide, rfl, fun h => absurd h.1 (by decide), 1, [], by decide, rfl⟩

theorem witness_StepKeepsInvariant : jumping.inv = true ∧ ∃ t, step jumping = .next t := ⟨by decide, _, rfl⟩
theorem witness_StepKeepsInvariant_interrupt :
    (halted [.request 1]).inv = true ∧ ∃ t, step (halted [.request 1]) = .next t := ⟨by decide, _, rfl⟩

theorem witness_ConditionalJumps :
    (∃ s : State, s.fc = true ∧ s.fz = true) ∧ ∃ s : State, s.fc = false ∧ s.fz = false :=
  ⟨⟨{ plain with fc := true, fz := true }, by decide⟩, plain, by decide⟩

theorem witness_PsetServesOnlyTheNextJump_pair :
    let s := { withRom [(0x100, 0xE5F), (0x101, 0x0FF)] State.reset with inputs := [.request 15], fi := true }
    Fetches s (.pset 0x1F) ∧ Fetches s.advance (.jp 0xFF) ∧ s.inputs = [.request 15] :=
  ⟨⟨rfl, 0xE5F, by decide, by decide, by decide⟩, ⟨rfl, 0x0FF, by decide, by decide, by decide⟩, rfl⟩
theorem witness_PsetServesOnlyTheNextJump_alone :
    let s := withRom [(0x3FF, 0x020)] (atPC 0x3FF State.reset)
    s.inv = true ∧ s.afterPset = false ∧ Fetches s (.jp 0x20) ∧ s.inputs = [] :=
  ⟨by decide, rfl, ⟨rfl, 0x020, by decide, by decide, by decide⟩, rfl⟩
theorem witness_PsetServesOnlyTheNextJump_cancelled :
    let s := withRom [(0x121, 0xE55), (0x122, 0xFFB), (0x123, 0x009)] (atPC 0x121 State.reset)
    Fetches s (.pset 0x15) ∧ Fetches s.advance .nop5 ∧ Fetches s.advance.advance (.jp 9) ∧ s.inputs = [] :=
  ⟨⟨rfl, 0xE55, by decide, by decide, by decide⟩, ⟨rfl, 0xFFB, by decide, by decide, by decide⟩,
    ⟨rfl, 0x009, by decide, by decide, by decide⟩, rfl⟩

theorem witness_CallEffects : plain.pushRoom ∧ ({ plain with sp := 0 } : State).pushRoom :=
  ⟨⟨by decide, by decide, by decide⟩, by decide, by decide, by decide⟩
theorem witness_ReturnEffects :
    let s := { plain with sp := 0xFD, xh := 0xF, xl := 0xF }
    s.popRoom ∧ s.present s.ix = true ∧ s.present s.ixNext = true :=
  ⟨⟨by decide, by decide, by decide⟩, by decide, by decide⟩
theorem witness_CallThenReturn : ({ plain with sp := 2 } : State).pushRam := ⟨by decide, by decide, by decide⟩

theorem witness_StandbyWaitsForAnInterrupt_disabled :
    let s := { halted [.request 4, .quiet] with fi := false }
    s.run ≠ .run ∧ s.fi = false ∧ ∀ x ∈ s.inputs, x ≠ .reset := by decide
theorem witness_StandbyWaitsForAnInterrupt_quiet :
    (halted [.quiet, .quiet]).run ≠ .run ∧ (halted []).run ≠ .run ∧ (halted []).fi = true ∧
      (∀ x ∈ (halted [.quiet, .quiet]).inputs, x = .quiet) ∧ ∀ x ∈ (halted []).inputs, x = .quiet := by decide
theorem witness_StandbyWaitsForAnInterrupt_taken :
    let s := { halted [.request 1] with run := .sleep }
    s.run ≠ .run ∧ s.fi = true ∧ (1 : Nibble) ≠ 0 ∧ s.inputs = .request 1 :: [] ∧ s.pushRoom :=
  ⟨by decide, rfl, by decide, rfl, by decide, by decide, by decide⟩

theorem witness_InterruptEnableDelay_first :
    let s := { withRom [(0x100, 0xF48)] State.reset with inputs := [.request 15] }
    Fetches s .ei ∧ (∃ t, exec .ei s.advance = .next t ∧ t.fi = true) ∧ s.fi = false ∧ s.inputs = .request 15 :: [] :=
  ⟨⟨rfl, 0xF48, by decide, by decide, by decide⟩, ⟨_, rfl, rfl⟩, rfl, rfl⟩
theorem witness_InterruptEnableDelay_next :
    let s := { withRom [(0x100, 0xFFB)] State.reset with inputs := [.request 1], fi := true, eiDelay := true, sp := 0x40 }
    Fetches s .nop5 ∧ (∃ t, exec .nop5 s.advance = .next t ∧ t.fi = true ∧ t.pushRoom) ∧ s.fi = true ∧
      s.eiDelay = true ∧ isPset .nop5 = false ∧ (1 : Nibble) ≠ 0 ∧ s.inputs = .request 1 :: [] :=
  ⟨⟨rfl, 0xFFB, by decide, by decide, by decide⟩, ⟨_, rfl, rfl, by decide, by decide, by decide⟩, rfl, rfl, rfl,
    by decide, rfl⟩
theorem witness_InterruptEnableDelay_no_memory :
    let s := { State.reset with
      dev := { Device.standard with rom := [(0x100, 0xFFB)], ramMap := [] }
      inputs := [.request 1, .quiet], fi := true, eiDelay := true }
    Fetches s .nop5 ∧ (∃ t, exec .nop5 s.advance = .next t ∧ t.fi = true ∧ ¬ t.pushRoom) ∧
      s.inputs = .request 1 :: [.quiet] ∧ ∀ x ∈ [Input.quiet], x ≠ .reset :=
  ⟨⟨rfl, 0xFFB, by decide, by decide, by decide⟩, ⟨_, rfl, rfl, fun h => absurd h.1 (by decide)⟩, rfl, by decide⟩

theorem witness_PushEffects :
    let s := { plain with sp := 0 }
    s.present (stackAddr (s.sp - 1)) = true ∧ ∀ r ∈ [Sel.a, .b, .mx, .my], s.selPresent r = true := by decide
theorem witness_PopEffects :
    let s := { plain with sp := 0xFF }
    s.present (stackAddr s.sp) = true ∧ ∀ r ∈ [Sel.a, .b, .mx, .my], s.selPresent r = true := by decide
theorem witness_PushThenPop :
    let s := { plain with sp := 0 }
    s.kindAt (stackAddr (s.sp - 1)) = .ram ∧ s.selPresent .mx = true ∧ s.selPresent .my = true := by decide

/-- The operand hypotheses of StackPointerTransfers, LoadIndexParts, StoreIndexParts, LoadsAndMoves and
PostIncrementLoads, at a page's last word. -/
theorem witness_operands_present :
    let s := { plain with xh := 0xF, xl := 0xF, yp := 0xF, yh := 0xF, yl := 0xF }
    (∀ r ∈ [Sel.a, .b, .mx, .my], s.selPresent r = true) ∧ s.present s.ix = true ∧ s.present s.iy = true := by decide
theorem witness_StackPointerTransfers : plain.selPresent .my = true := by decide
theorem witness_LoadIndexParts : plain.selPresent .mx = true := by decide
theorem witness_StoreIndexParts : plain.selPresent .mx = true := by decide
theorem witness_LoadsAndMoves : plain.selPresent .mx = true ∧ plain.selPresent .my = true := by decide
theorem witness_PostIncrementLoads :
    plain.present plain.ix = true ∧ plain.present plain.iy = true ∧ plain.selPresent .b = true ∧
      plain.selPresent .mx = true := by decide
theorem witness_DirectLoads :
    plain.present (BitVec.ofNat 12 (0 : Nibble).toNat) = true ∧ plain.present (BitVec.ofNat 12 (15 : Nibble).toNat) = true := by
  decide
theorem witness_ByteLoad :
    let s := { plain with xh := 0xF, xl := 0xF }
    s.kindAt s.ix = .ram ∧ s.kindAt (s.xp ++ BitVec.ofNat 8 (s.x.toNat + 1)) = .ram ∧ s.present s.ix = true ∧
      s.present (s.xp ++ BitVec.ofNat 8 (s.x.toNat + 1)) = true := by decide

theorem witness_HexadecimalAddition :
    plain.selPresent .mx = true ∧ plain.selPresent .b = true ∧ plain.fd = false := by decide
theorem witness_HexadecimalSubtraction :
    plain.selPresent .a = true ∧ plain.selPresent .my = true ∧ plain.fd = false := by decide
/-- Both digits at their largest, a register and a memory operand. -/
theorem witness_DecimalAddition :
    decimal.selPresent .a = true ∧ decimal.selPresent .mx = true ∧ decimal.fd = true ∧ decimal.sel .a ≤ 9 ∧
      (9 : Nibble) ≤ 9 ∧ (decimal.touchSel .a).sel .mx ≤ 9 := by decide
theorem witness_DecimalSubtraction :
    decimal.selPresent .mx = true ∧ decimal.selPresent .a = true ∧ decimal.fd = true ∧ decimal.sel .mx ≤ 9 ∧
      (9 : Nibble) ≤ 9 ∧ (decimal.touchSel .mx).sel .a ≤ 9 := by decide
/-- The smallest operand above 9 beside the largest digit. -/
theorem witness_DecimalOnOtherOperands :
    decimal.selPresent .a = true ∧ decimal.selPresent .my = true ∧ decimal.fd = true ∧
      ¬ (decimal.sel .a ≤ 9 ∧ (10 : Nibble) ≤ 9) ∧ ¬ (decimal.sel .a ≤ 9 ∧ (decimal.touchSel .a).sel .my ≤ 9) := by decide
theorem witness_MemoryAddAndSubtract :
    plain.selPresent .my = true ∧ plain.fd = false ∧ plain.present plain.ix = true ∧ plain.present plain.iy = true := by
  decide
theorem witness_MemoryDecimalDigits :
    decimal.selPresent .a = true ∧ decimal.fd = true ∧ decimal.present decimal.ix = true ∧
      (decimal.word decimal.ix ≤ 9 ∧ (decimal.touch decimal.ix).sel .a ≤ 9) ∧ decimal.present decimal.iy = true ∧
      ¬ (decimal.word decimal.iy ≤ 9 ∧ (decimal.touch decimal.iy).sel .a ≤ 9) := by decide
theorem witness_MemoryDecimalDigits_swapped :
    let s := { decimal with xh := 3, yh := 2 }
    s.selPresent .a = true ∧ ¬ (s.word s.ix ≤ 9 ∧ (s.touch s.ix).sel .a ≤ 9) ∧
      (s.word s.iy ≤ 9 ∧ (s.touch s.iy).sel .a ≤ 9) := by decide
theorem witness_LogicOperations : plain.selPresent .mx = true ∧ plain.selPresent .my = true := by decide
theorem witness_CompareAndTest : plain.selPresent .b = true ∧ plain.selPresent .mx = true := by decide
theorem witness_Rotates :
    ∀ z ∈ [RotateZ.keeps, .writes, .either],
      let s := { plain with dev := { plain.dev with rotateZ := z } }
      s.selPresent .mx = true ∧ s.dev.rotateZ = z := by decide
theorem witness_RotateLeftIsAddWithCarry :
    ∀ z ∈ [RotateZ.keeps, .writes],
      let s := { plain with dev := { plain.dev with rotateZ := z } }
      s.selAddr .mx = some s.ix ∧ s.kindAt s.ix = .ram ∧ s.selAddr .a = none ∧ s.fd = false ∧ s.dev.rotateZ = z := by decide
theorem witness_RegisterAreaCounters :
    plain.present (BitVec.ofNat 12 (0 : Nibble).toNat) = true ∧ plain.present (BitVec.ofNat 12 (15 : Nibble).toNat) = true := by
  decide

theorem witness_FlagFrame :
    (∃ t, exec .scf plain = .next t) ∧ writesI .scf = false ∧ writesD .scf = false ∧ writesZ .either .scf = false ∧
      (∃ t, exec .szf plain = .next t) ∧ writesC .szf = false ∧ ∃ t, raiseInterrupt 15 plain = .ok t :=
  ⟨⟨_, rfl⟩, rfl, rfl, rfl, ⟨_, rfl⟩, rfl, _, rfl⟩
theorem witness_RegisterFrame :
    (∃ t, exec (.addRI .a 15) plain = .next t) ∧
      ∀ g ∈ [Reg.b, .xp, .xh, .xl, .yp, .yh, .yl, .sp, .rp], writesReg (.addRI .a 15) g = false :=
  ⟨⟨_, rfl⟩, by decide⟩
theorem witness_RegisterFrame_a : (∃ t, exec .incX plain = .next t) ∧ writesReg .incX .a = false := ⟨⟨_, rfl⟩, rfl⟩
theorem witness_MemoryFrame :
    (∃ t, exec (.lbpx 0xFF) plain = .next t) ∧ (0x01F : Addr) ∉ storesTo (.lbpx 0xFF) plain ∧
      (0x022 : Addr) ∉ storesTo (.lbpx 0xFF) plain ∧ plain.kindAt 0x022 ≠ .io :=
  ⟨⟨_, rfl⟩, by decide, by decide, by decide⟩
theorem witness_ControlFrame :
    (∃ t, exec (.call 0xFF) plain = .next t) ∧ isJump (.call 0xFF) = false ∧ isPset (.call 0xFF) = false ∧
      (∃ t, exec (.pset 0) plain = .next t) ∧ writesCounter (.pset 0) = false ∧ Instr.call 0xFF ≠ .halt ∧
      Instr.call 0xFF ≠ .slp :=
  ⟨⟨_, rfl⟩, rfl, rfl, ⟨_, rfl⟩, rfl, by decide, by decide⟩
theorem witness_AccessesInOrder :
    ∃ t, exec (.ldRQ .mx .my) { plain with xp := 0xF, yp := 0xF, dev := holes } = .next t := ⟨_, rfl⟩
theorem witness_CompletesUnlessAbsent :
    (∀ c ∈ accessesOf (.retd 0xFF) plain, plain.present c.addr = true) ∧
      ∃ c ∈ accessesOf (.ldRQ .mx .my) { plain with xp := 1, dev := holes },
        ({ plain with xp := 1, dev := holes } : State).present c.addr = false := by decide
theorem witness_RegisterPointerIsNotObservable :
    (∀ i ∈ [Instr.ldAMn 0, .ldBMn 0, .ldMnA 15, .ldMnB 15, .incMn 0, .decMn 15],
      ∃ t, exec i { plain with ram := [(0, 1), (15, 1)] } = .next t) ∧
    (∃ t, exec .nop5 plain = .next t) ∧
    (∀ n : Nibble, Instr.nop5 ∉ [Instr.ldAMn n, .ldBMn n, .ldMnA n, .ldMnB n, .incMn n, .decMn n]) ∧
    ∃ f, exec (.incMn 0) { plain with dev := { Device.standard with ramMap := [] } } = .fault f :=
  ⟨by
    intro i hi
    simp only [List.mem_cons, List.not_mem_nil, or_false] at hi
    rcases hi with rfl | rfl | rfl | rfl | rfl | rfl <;> exact ⟨_, rfl⟩,
   ⟨_, rfl⟩, by decide, _, rfl⟩
theorem witness_InterruptAcceptance :
    (∃ s : State, (15 : Nibble) ≠ 0 ∧ s.inputs = .request 15 :: [] ∧ s.fi = true ∧ s.eiDelay = false ∧
      s.afterPset = false) ∧
    ∀ s ∈ [{ plain with inputs := [.request 1] }, { plain with inputs := [.request 1], fi := true, eiDelay := true },
        { plain with inputs := [.request 1], fi := true, afterPset := true }],
      s.inputs = .request 1 :: [] ∧ ¬ (s.fi = true ∧ s.eiDelay = false ∧ s.afterPset = false) :=
  ⟨⟨{ plain with inputs := [.request 15], fi := true }, by decide⟩, by decide⟩
theorem witness_InterruptEntry : ({ plain with sp := 2 } : State).pushRoom := ⟨by decide, by decide, by decide⟩
theorem witness_InterruptThenReturn : ({ plain with sp := 2 } : State).pushRam := ⟨by decide, by decide, by decide⟩
theorem witness_PeripheralRegisters :
    let s := { plain with xp := 0xF, xh := 0xF, xl := 0xF
                          dev := { holes with io := { model := 0
                                                      rules := [⟨true, 0xFFF, [], 0, 0, 0, [⟨0xFFF, ~~~3, 3, 0⟩]⟩,
                                                        ⟨false, 0xFFF, [], 0, 0, 0xF, [⟨0xFFF, ~~~1, 0, 0⟩]⟩]
                                                      atReset := [] } } }
    s.kindAt s.ix = .io ∧
      s.dev.io.rules =
        [{ isWrite := true, addr := s.ix, tests := [], mask := 0, value := 0, known := 0
           effects := [{ addr := s.ix, keep := ~~~3, take := 3, set := 0 }] },
         { isWrite := false, addr := s.ix, tests := [], mask := 0, value := 0, known := 0xF
           effects := [{ addr := s.ix, keep := ~~~1, take := 0, set := 0 }] }] ∧
      ∃ t, exec (.ldRI .mx 0xF) s = .next t :=
  ⟨by decide, by decide, _, rfl⟩
theorem witness_UnassignedOwnInstructions :
    let s := { State.reset with
      dev := { Device.standard with rom := [(0x100, 0xAF1)], unassigned := [(0xAF1, .own [.acts .incX, .free .a] 5)] } }
    s.run = .run ∧ Cells.lookup s.dev.rom s.pc.toNat = some 0xAF1 ∧ (decode 0xAF1).toOption = none ∧
      treatmentOf s.dev.unassigned 0xAF1 = some (.own [.acts .incX, .free .a] 5) ∧
      (∃ t, runSteps [.acts .incX, .free .a] 0 0 s.advance = .next t ∧ t.inputs = []) ∧
      ∃ t, exec .incX s = .next t :=
  ⟨rfl, by decide, by decide, by decide, ⟨_, rfl, rfl⟩, _, rfl⟩
theorem witness_UnassignedOwnInstructions_stops :
    let s := { State.reset with
      dev := { Device.standard with rom := [(0x100, 0xAF1)], unassigned := [(0xAF1, .own [.acts .pushF] 5)], ramMap := [] } }
    treatmentOf s.dev.unassigned 0xAF1 = some (.own [.acts .pushF] 5) ∧ (∃ f, exec .pushF s.advance = .fault f) ∧
      (∃ f, runSteps [.acts .pushF] 0 0 s.advance = .fault f) ∧ ∀ x ∈ s.inputs, x ≠ .reset :=
  ⟨by decide, ⟨_, rfl⟩, ⟨_, rfl⟩, by decide⟩


end Sys2Proof.Tests
end

section
/-! PROOFS. The peripheral registers along an instruction (00_scope.md R7, 20_memory.md R73; log 6). Each data access at
a peripheral register records itself and applies the device's rule in one go (`State.access`), and nothing else writes the
registers, the record or the device. So "the registers are what the recorded accesses leave" is carried through each
shared operation once, and then through each instruction by its shape. -/

namespace Sys2Proof.Machine

open Sys2Proof.Config

/-! ## The registers follow the recorded accesses -/

/-- What decides and records the peripheral registers: the device, their content, the accesses made. -/
def State.ioView (s : State) : Device × Memory × List IoAccess := (s.dev, s.ioRegs, s.ioTrace)

/-- From `s` on, in the same device, what the registers of `t` hold is what the accesses recorded since leave. -/
def IoFollows (s t : State) : Prop :=
  t.dev = s.dev ∧ ∃ l : List IoAccess, t.ioTrace = l ++ s.ioTrace ∧ t.ioRegs = l.foldr (ioAfter s.dev.io) s.ioRegs

theorem IoFollows.of_ioView {s t : State} (h : t.ioView = s.ioView) : IoFollows s t := by
  simp only [State.ioView, Prod.mk.injEq] at h
  obtain ⟨hdev, hregs, htrace⟩ := h
  exact ⟨hdev, [], htrace, hregs⟩

theorem IoFollows.trans {s t u : State} (h1 : IoFollows s t) (h2 : IoFollows t u) : IoFollows s u := by
  obtain ⟨hdev1, l1, htrace1, hregs1⟩ := h1
  obtain ⟨hdev2, l2, htrace2, hregs2⟩ := h2
  refine ⟨hdev2.trans hdev1, l2 ++ l1, ?_, ?_⟩
  · rw [htrace2, htrace1, List.append_assoc]
  · rw [hregs2, hregs1, hdev1, List.foldr_append]

theorem ioFollows_access (s : State) (c : IoAccess) : IoFollows s (s.access c) := ⟨rfl, [c], rfl, rfl⟩

theorem ioFollows_touch (s : State) (a : Addr) : IoFollows s (s.touch a) := by
  unfold State.touch
  split
  · exact (ioFollows_access s _).trans (.of_ioView rfl)
  · exact .of_ioView rfl
  · exact .of_ioView rfl

theorem ioFollows_store (s : State) (a : Addr) (v : Nibble) : IoFollows s (s.store a v) := by
  unfold State.store
  split
  · exact .of_ioView rfl
  · exact ioFollows_access s _
  · exact .of_ioView rfl

theorem ioFollows_touchSel (s : State) (r : Sel) : IoFollows s (s.touchSel r) := by
  cases r with
  | a | b => exact .of_ioView rfl
  | mx | my => exact ioFollows_touch s _

theorem ioFollows_putSel (s : State) (r : Sel) (v : Nibble) : IoFollows s (s.putSel r v) := by
  cases r with
  | a | b => exact .of_ioView rfl
  | mx | my => exact ioFollows_store s _ v

/-! ## The same for a sequence of operations, some of which can stop -/

/-- Wherever `m` answers, the state in its answer, read off by `out`, has registers that follow from `s`. -/
def IoKept {α : Type} (s : State) (out : α → State) (m : Except Fault α) : Prop := ∀ x, m = .ok x → IoFollows s (out x)

theorem IoKept.ok {s u : State} (h : u.ioView = s.ioView) : IoKept s id (.ok u) := by
  rintro _ ⟨⟩
  exact .of_ioView h

theorem IoKept.bind {α β : Type} {s : State} {out : α → State} {out' : β → State} {m : Except Fault α}
    {k : α → Except Fault β} (hm : IoKept s out m) (hk : ∀ x, IoKept (out x) out' (k x)) :
    IoKept s out' (m >>= k) := by
  intro y hy
  obtain ⟨x, hx, hkx⟩ := bind_eq_ok.mp hy
  exact (hm x hx).trans (hk x y hkx)

/-- A sequence that starts from a state with other registers of the core. -/
theorem IoKept.of_ioView {α : Type} {s s' : State} {out : α → State} {m : Except Fault α} (h : IoKept s' out m)
    (hs : s'.ioView = s.ioView) : IoKept s out m :=
  fun x hx => (IoFollows.of_ioView hs).trans (h x hx)

theorem IoKept.follows {s t : State} {m : Except Fault State} (h : complete m = .next t) (hm : IoKept s id m) :
    IoFollows s t :=
  hm t (complete_eq_next.mp h)

/-- An instruction that stays inside the core answers at once. -/
theorem IoFollows.of_next {s t u : State} (h : (.next u : Host.Outcome State Fault Refusal) = .next t)
    (hu : u.ioView = s.ioView) : IoFollows s t := by
  cases h
  exact .of_ioView hu

theorem ioKept_memRead (a : Addr) (s : State) : IoKept s Prod.snd (memRead a s) := by
  intro p hp
  obtain ⟨-, rfl⟩ := memRead_eq_ok.mp hp
  exact ioFollows_touch s a

theorem ioKept_memWrite (a : Addr) (v : Nibble) (s : State) : IoKept s id (memWrite a v s) := by
  intro t ht
  obtain ⟨-, rfl⟩ := memWrite_eq_ok.mp ht
  exact ioFollows_store s a v

theorem ioKept_readSel (r : Sel) (s : State) : IoKept s Prod.snd (readSel r s) := by
  intro p hp
  obtain ⟨-, rfl⟩ := readSel_eq_ok.mp hp
  exact ioFollows_touchSel s r

theorem ioKept_writeSel (r : Sel) (v : Nibble) (s : State) : IoKept s id (writeSel r v s) := by
  intro t ht
  obtain ⟨-, rfl⟩ := writeSel_eq_ok.mp ht
  exact ioFollows_putSel s r v

theorem ioKept_push (v : Nibble) (s : State) : IoKept s id (push v s) :=
  (ioKept_memWrite _ v (s.setSP (s.sp - 1))).of_ioView rfl

theorem ioKept_pop (s : State) : IoKept s Prod.snd (pop s) := by
  intro p hp
  obtain ⟨-, rfl⟩ := pop_eq_ok.mp hp
  exact (ioFollows_touch s _).trans (.of_ioView rfl)

theorem ioKept_pushReturn (s : State) : IoKept s id (pushReturn s) :=
  (ioKept_memWrite _ _ s).bind fun s1 => (ioKept_memWrite _ _ s1).bind fun s2 => (ioKept_memWrite _ _ s2).bind fun _ =>
    .ok rfl

theorem ioKept_popReturn (s : State) : IoKept s id (popReturn s) :=
  (ioKept_memRead _ s).bind fun (_, s1) => (ioKept_memRead _ s1).bind fun (_, s2) => (ioKept_memRead _ s2).bind fun _ =>
    .ok rfl

theorem ioKept_storePairX (e : Byte) (s : State) : IoKept s id (storePairX e s) :=
  (ioKept_memWrite _ _ s).bind fun s1 => (ioKept_memWrite _ _ s1).bind fun _ => .ok rfl

theorem ioKept_moveSel (r q : Sel) (s : State) : IoKept s id (moveSel r q s) :=
  (ioKept_readSel q s).bind fun (v, s1) => ioKept_writeSel r v s1

section Shapes

/-! The shapes with an operation `op`, for one that works inside the core. -/

variable {op : Nibble → State → Nibble × State} {op2 : Nibble → Nibble → State → Nibble × State}

theorem ioKept_modifySel (r : Sel) (s : State) (hop : ∀ v u, (op v u).2.ioView = u.ioView) :
    IoKept s id (modifySel r op s) :=
  (ioKept_readSel r s).bind fun (v, s1) => (ioKept_writeSel r _ _).of_ioView (hop v s1)

theorem ioKept_combineSel (r q : Sel) (s : State) (hop : ∀ v w u, (op2 v w u).2.ioView = u.ioView) :
    IoKept s id (combineSel r q op2 s) :=
  (ioKept_readSel r s).bind fun (v, s1) => (ioKept_readSel q s1).bind fun (w, s2) =>
    (ioKept_writeSel r _ _).of_ioView (hop v w s2)

theorem ioKept_testSel (r : Sel) (s : State) (hop : ∀ v u, (op v u).2.ioView = u.ioView) :
    IoKept s id (testSel r op s) :=
  (ioKept_readSel r s).bind fun (v, s1) => .ok (hop v s1)

theorem ioKept_testSel2 (r q : Sel) (s : State) (hop : ∀ v w u, (op2 v w u).2.ioView = u.ioView) :
    IoKept s id (testSel2 r q op2 s) :=
  (ioKept_readSel r s).bind fun (v, s1) => (ioKept_readSel q s1).bind fun (w, s2) => .ok (hop v w s2)

theorem ioKept_combineMem (a : Addr) (r : Sel) (s : State) (hop : ∀ v w u, (op2 v w u).2.ioView = u.ioView) :
    IoKept s id (combineMem a r op2 s) :=
  (ioKept_memRead a s).bind fun (v, s1) => (ioKept_readSel r s1).bind fun (w, s2) =>
    (ioKept_memWrite a _ _).of_ioView (hop v w s2)

theorem ioKept_modifyMn (n : Nibble) (s : State) (hop : ∀ v u, (op v u).2.ioView = u.ioView) :
    IoKept s id (modifyMn n op s) :=
  ((ioKept_memRead (regAddr n) (s.setRP n)).of_ioView rfl).bind fun (v, s1) =>
    (ioKept_memWrite (regAddr n) _ _).of_ioView (hop v s1)

end Shapes

@[simp] theorem add4_ioView (x y : Nibble) (cin dec : Bool) (s : State) : (add4 x y cin dec s).2.ioView = s.ioView := rfl

@[simp] theorem sub4_ioView (x y : Nibble) (bin dec : Bool) (s : State) : (sub4 x y bin dec s).2.ioView = s.ioView := rfl

@[simp] theorem logic4_ioView (v : Nibble) (s : State) : (logic4 v s).2.ioView = s.ioView := rfl

theorem setF_ioView (s : State) (v : Nibble) : (s.setF v).ioView = s.ioView := by simp [State.ioView]

theorem rotateLeft4_ioView (v : Nibble) (s : State) : (rotateLeft4 v s).2.ioView = s.ioView := by
  simp [rotateLeft4, State.ioView]

theorem rotateRight4_ioView (v : Nibble) (s : State) : (rotateRight4 v s).2.ioView = s.ioView := by
  simp [rotateRight4, State.ioView]

theorem ite_ioView {s t u : State} {b : Bool} (ht : t.ioView = s.ioView) (hu : u.ioView = s.ioView) :
    (if b then t else u).ioView = s.ioView := by
  cases b with
  | false => exact hu
  | true => exact ht

/-- Every instruction, by its shape: inside the core only; one of the shared shapes; or one of those and then an update
inside the core. -/
theorem exec_ioFollows {i : Instr} {s t : State} (h : exec i s = .next t) : IoFollows s t := by
  cases i with
  | pset | jp | jpba | nop5 | nop7 | halt | slp | setF | rstF | scf | rcf | szf | rzf | sdf | rdf | ei | di
  | incSP | decSP | incX | incY | ldXE | ldYE | adcXHI | adcXLI | adcYHI | adcYLI =>
    exact .of_next h (by simp [State.ioView])
  | cpXHI | cpXLI | cpYHI | cpYLI => exact .of_next h (sub4_ioView ..)
  | jpC | jpNC | jpZ | jpNZ => exact .of_next h (ite_ioView rfl rfl)
  | call | calz => exact IoKept.follows h ((ioKept_pushReturn s).bind fun _ => .ok rfl)
  | ret => exact IoKept.follows h (ioKept_popReturn s)
  | rets => exact IoKept.follows h ((ioKept_popReturn s).bind fun _ => .ok rfl)
  | retd e => exact IoKept.follows h ((ioKept_popReturn s).bind fun s1 => ioKept_storePairX e s1)
  | lbpx e => exact IoKept.follows h (ioKept_storePairX e s)
  | pushR r => exact IoKept.follows h ((ioKept_readSel r s).bind fun (v, s1) => ioKept_push v s1)
  | pushXP | pushXH | pushXL | pushYP | pushYH | pushYL | pushF => exact IoKept.follows h (ioKept_push _ s)
  | popR r => exact IoKept.follows h ((ioKept_pop s).bind fun (v, s1) => ioKept_writeSel r v s1)
  | popXP | popXH | popXL | popYP | popYH | popYL =>
    exact IoKept.follows h ((ioKept_pop s).bind fun _ => .ok rfl)
  | popF => exact IoKept.follows h ((ioKept_pop s).bind fun (v, s1) => .ok (setF_ioView s1 v))
  | ldXPR r | ldXHR r | ldXLR r | ldYPR r | ldYHR r | ldYLR r | ldSPHR r | ldSPLR r =>
    exact IoKept.follows h ((ioKept_readSel r s).bind fun _ => .ok rfl)
  | ldRXP r | ldRXH r | ldRXL r | ldRYP r | ldRYH r | ldRYL r | ldRSPH r | ldRSPL r | ldRI r =>
    exact IoKept.follows h (ioKept_writeSel r _ s)
  | ldRQ r q => exact IoKept.follows h (ioKept_moveSel r q s)
  | ldpxRQ r q | ldpyRQ r q => exact IoKept.follows h ((ioKept_moveSel r q s).bind fun _ => .ok rfl)
  | ldpxMXI | ldpyMYI => exact IoKept.follows h ((ioKept_memWrite _ _ s).bind fun _ => .ok rfl)
  | ldAMn n | ldBMn n =>
    exact IoKept.follows h (((ioKept_memRead _ (s.setRP n)).of_ioView rfl).bind fun _ => .ok rfl)
  | ldMnA n | ldMnB n => exact IoKept.follows h ((ioKept_memWrite _ _ (s.setRP n)).of_ioView rfl)
  | addRI r | adcRI r | sbcRI r | andRI r | orRI r | xorRI r | notR r =>
    exact IoKept.follows h (ioKept_modifySel r s fun _ _ => by simp)
  | rlc r => exact IoKept.follows h (ioKept_modifySel r s rotateLeft4_ioView)
  | rrc r => exact IoKept.follows h (ioKept_modifySel r s rotateRight4_ioView)
  | addRQ r q | adcRQ r q | subRQ r q | sbcRQ r q | andRQ r q | orRQ r q | xorRQ r q =>
    exact IoKept.follows h (ioKept_combineSel r q s fun _ _ _ => by simp)
  | cpRI r | fanRI r => exact IoKept.follows h (ioKept_testSel r s fun _ _ => by simp)
  | cpRQ r q | fanRQ r q => exact IoKept.follows h (ioKept_testSel2 r q s fun _ _ _ => by simp)
  | incMn n | decMn n => exact IoKept.follows h (ioKept_modifyMn n s fun _ _ => by simp)
  | acpx r | acpy r | scpx r | scpy r =>
    exact IoKept.follows h ((ioKept_combineMem _ r s fun _ _ _ => by simp).bind fun _ => .ok rfl)

/-! ## A register that stores under a mask and clears when read -/

/-- The rules of a device whose one register, at `a`, stores the bits of `m` and clears the bits of `c` when it is read. -/
def maskedClearingRules (a : Addr) (m c : Nibble) : List IoRule :=
  [{ isWrite := true, addr := a, tests := [], mask := 0, value := 0, known := 0
     effects := [{ addr := a, keep := ~~~m, take := m, set := 0 }] },
   { isWrite := false, addr := a, tests := [], mask := 0, value := 0, known := 0xF
     effects := [{ addr := a, keep := ~~~c, take := 0, set := 0 }] }]

section MaskedClearing

variable {io : Peripherals} {a : Addr} {m c : Nibble}

theorem ioHeld_after_masked_write (h : io.rules = maskedClearingRules a m c) (regs : Memory) (k : Nibble) :
    ioHeld (ioAfter io (.write a k) regs) a = (ioHeld regs a &&& ~~~m) ||| (k &&& m) := by
  simp [ioAfter, ioRuleFor, h, maskedClearingRules, ioMeets, ioEffect, ioWritten, ioHeld_insert]

theorem ioHeld_after_clearing_read (h : io.rules = maskedClearingRules a m c) (regs : Memory) :
    ioHeld (ioAfter io (.read a) regs) a = ioHeld regs a &&& ~~~c := by
  simp [ioAfter, ioRuleFor, h, maskedClearingRules, ioMeets, ioEffect, ioWritten, ioHeld_insert]

/-- Every bit of such a register is known, so a read answers what it holds. -/
theorem State.word_of_maskedClearing {s : State} (h : s.dev.io.rules = maskedClearingRules a m c)
    (hk : s.kindAt a = .io) : s.word a = ioHeld s.ioRegs a := by
  simp [State.word, hk, State.ioAnswer, ioRuleFor, h, maskedClearingRules, ioMeets]

end MaskedClearing

theorem State.store_ioRegs_of_io {s : State} {a : Addr} (h : s.kindAt a = .io) (v : Nibble) :
    (s.store a v).ioRegs = ioAfter s.dev.io (.write a v) s.ioRegs := by
  simp [State.store, h]

theorem State.touch_ioRegs_of_io {s : State} {a : Addr} (h : s.kindAt a = .io) :
    (s.touch a).ioRegs = ioAfter s.dev.io (.read a) s.ioRegs := by
  simp [State.touch, h]

theorem State.selPresent_mx_of_io {s : State} (h : s.kindAt s.ix = .io) : s.selPresent .mx = true := by
  simp [State.selPresent, State.present, h]

/-- LD r,i with the operand present (45_data_transfer.md R225). -/
theorem exec_ldRI_of_present {r : Sel} {s : State} (h : s.selPresent r = true) (k : Nibble) :
    exec (.ldRI r k) s = .next (s.putSel r k) :=
  complete_eq_next.mpr (writeSel_of_present h k)

/-- LD r,q with both operands present (R226). -/
theorem exec_ldRQ_of_present {r q : Sel} {s : State} (hq : s.selPresent q = true) (hr : s.selPresent r = true) :
    exec (.ldRQ r q) s = .next ((s.touchSel q).putSel r (s.sel q)) :=
  complete_eq_next.mpr (moveSel_eq_ok.mpr ⟨hq, hr, rfl⟩)

/-- LD r,MX into a register of the core, at such a peripheral register: what it holds is loaded, and it is read. -/
theorem exec_ldRQ_mx_of_maskedClearing {r : Sel} {s : State} {a : Addr} {m c : Nibble} (hr : s.selPresent r = true)
    (hx : s.ix = a) (hk : s.kindAt a = .io) (h : s.dev.io.rules = maskedClearingRules a m c) :
    exec (.ldRQ r .mx) s = .next ((s.touch a).putSel r (ioHeld s.ioRegs a)) := by
  subst hx
  rw [exec_ldRQ_of_present (State.selPresent_mx_of_io hk) hr, ← State.word_of_maskedClearing h hk]
  rfl

/-- A write of `k` and two reads of the register IX names: the first read gives the bits stored beside those kept, the
second that with the cleared bits 0. -/
theorem exec_write_read_read_of_maskedClearing {s : State} {m c : Nibble} (k : Nibble) (hk : s.kindAt s.ix = .io)
    (h : s.dev.io.rules = maskedClearingRules s.ix m c) :
    ∃ t u v, exec (.ldRI .mx k) s = .next t ∧ exec (.ldRQ .a .mx) t = .next u ∧ exec (.ldRQ .b .mx) u = .next v ∧
      u.a = (ioHeld s.ioRegs s.ix &&& ~~~m) ||| (k &&& m) ∧ v.b = u.a &&& ~~~c := by
  let t := s.store s.ix k
  let u := (t.touch s.ix).setA (ioHeld t.ioRegs s.ix)
  have hkt : t.kindAt s.ix = .io := (State.store_kindAt ..).trans hk
  have hku : u.kindAt s.ix = .io := (State.touch_kindAt ..).trans hkt
  have ht : t.dev.io.rules = maskedClearingRules s.ix m c := by rw [State.store_dev, h]
  have hu : u.dev.io.rules = maskedClearingRules s.ix m c := by rw [State.setA_dev, State.touch_dev, ht]
  have htx : t.ix = s.ix := State.store_ix ..
  have hux : u.ix = s.ix := (State.touch_ix ..).trans htx
  have hwritten : ioHeld t.ioRegs s.ix = (ioHeld s.ioRegs s.ix &&& ~~~m) ||| (k &&& m) := by
    rw [State.store_ioRegs_of_io hk, ioHeld_after_masked_write h]
  have hcleared : ioHeld u.ioRegs s.ix = ioHeld t.ioRegs s.ix &&& ~~~c := by
    rw [State.setA_ioRegs, State.touch_ioRegs_of_io hkt, ioHeld_after_clearing_read ht]
  exact ⟨t, u, _, exec_ldRI_of_present (State.selPresent_mx_of_io hk) k, exec_ldRQ_mx_of_maskedClearing rfl htx hkt ht,
    exec_ldRQ_mx_of_maskedClearing rfl hux hku hu, hwritten, hcleared⟩

/-- Settles O59: each instruction by its shape, then the write and the two reads of the register. -/
theorem peripheralRegisters : Obligations.PeripheralRegisters := by
  refine ⟨fun i s t h => ?_, fun s k m c hk h => exec_write_read_read_of_maskedClearing k hk h⟩
  obtain ⟨-, hregs⟩ := exec_ioFollows h
  exact hregs

end Sys2Proof.Machine
end

section
/-! PROOFS. What an instruction can write, said once (10_state.md R31, R32, R39, R49): whatever state it leaves is
reached from the one it started in by single writes, each to a place the tables of Safety.lean list for it. The three
frames (flags, registers, control) and the memory half of the invariant are inductions over those writes. -/

namespace Sys2Proof.Machine

open Sys2Proof.Config

/-! ## A data register by its name -/

/-- SP has eight bits, every other data register four (10_state.md R20). -/
def Reg.width : Reg → Nat
  | .sp => 8
  | _ => 4

/-- Register `g` becomes `v`. -/
def State.setReg (s : State) : (g : Reg) → BitVec g.width → State
  | .a, v => s.setA v
  | .b, v => s.setB v
  | .xp, v => s.setXP v
  | .xh, v => s.setXH v
  | .xl, v => s.setXL v
  | .yp, v => s.setYP v
  | .yh, v => s.setYH v
  | .yl, v => s.setYL v
  | .sp, v => s.setSP v
  | .rp, v => s.setRP v

theorem State.setReg_reg_other (s : State) {g c : Reg} (v : BitVec g.width) (h : g ≠ c) :
    (s.setReg g v).reg c = s.reg c := by
  cases g <;> cases c
  case a.a | b.b | xp.xp | xh.xh | xl.xl | yp.yp | yh.yh | yl.yl | sp.sp | rp.rp => exact absurd rfl h
  all_goals rfl

/-- An update of one data register changes data registers only: every other field is as it was, by reading it off. -/
theorem State.setReg_eq (s : State) (g : Reg) (v : BitVec g.width) :
    s.setReg g v =
      { s with
          a := (s.setReg g v).a, b := (s.setReg g v).b
          xp := (s.setReg g v).xp, xh := (s.setReg g v).xh, xl := (s.setReg g v).xl
          yp := (s.setReg g v).yp, yh := (s.setReg g v).yh, yl := (s.setReg g v).yl
          sp := (s.setReg g v).sp, rp := (s.setReg g v).rp } := by
  cases g <;> rfl

/-! ## The writes -/

/-- `t` is reached from `s` by writes that the tables list for instruction `i`. Reads and stores of data memory are not
restricted here (their addresses are R71's), nor is the count of free values. -/
inductive ListedWrites (i : Instr) (s : State) : State → Prop
  | refl : ListedWrites i s s
  | touch {t : State} (h : ListedWrites i s t) (a : Addr) : ListedWrites i s (t.touch a)
  | store {t : State} (h : ListedWrites i s t) (a : Addr) (v : Nibble) : ListedWrites i s (t.store a v)
  | setReg {t : State} (h : ListedWrites i s t) (g : Reg) (hg : writesReg i g = true) (v : BitVec g.width) :
      ListedWrites i s (t.setReg g v)
  | setI {t : State} (h : ListedWrites i s t) (hi : writesI i = true) (v : Bool) : ListedWrites i s (t.setI v)
  | setD {t : State} (h : ListedWrites i s t) (hd : writesD i = true) (v : Bool) : ListedWrites i s (t.setD v)
  | setZ {t : State} (h : ListedWrites i s t) (hz : writesZ s.dev.rotateZ i = true) (v : Bool) :
      ListedWrites i s (t.setZ v)
  | setC {t : State} (h : ListedWrites i s t) (hc : writesC i = true) (v : Bool) : ListedWrites i s (t.setC v)
  | setPC {t : State} (h : ListedWrites i s t) (hc : writesCounter i = true) (bk : Bit) (pg : Nibble) (st : Byte)
      (hb : isJump i = true ∨ bk = t.pcb) : ListedWrites i s (t.setPC bk pg st)
  | setNext {t : State} (h : ListedWrites i s t) (hp : isPset i = true) (bk : Bit) (pg : Nibble) :
      ListedWrites i s (t.setNext bk pg)
  | setRun {t : State} (h : ListedWrites i s t) (hr : i = .halt ∨ i = .slp) (v : RunState) :
      ListedWrites i s (t.setRun v)
  | setDraws {t : State} (h : ListedWrites i s t) (n : Nat) : ListedWrites i s (t.setDraws n)

namespace ListedWrites

variable {i : Instr} {s t : State}

theorem dev_eq (h : ListedWrites i s t) : t.dev = s.dev := by
  induction h with
  | refl => rfl
  | setReg _ g _ v ih => rw [State.setReg_eq]; exact ih
  | _ => simpa using ‹_›

/-- A register listed beside the destination operand. -/
theorem also (h : ListedWrites i s t) (g : Reg) (hg : (alsoWrites i).contains g = true) (v : BitVec g.width) :
    ListedWrites i s (t.setReg g v) :=
  h.setReg g (by rw [writesReg, hg, Bool.or_true]) v

theorem setX (h : ListedWrites i s t) (hh : (alsoWrites i).contains .xh = true)
    (hl : (alsoWrites i).contains .xl = true) (v : Byte) : ListedWrites i s (t.setX v) :=
  (h.also .xh hh _).also .xl hl _

theorem setY (h : ListedWrites i s t) (hh : (alsoWrites i).contains .yh = true)
    (hl : (alsoWrites i).contains .yl = true) (v : Byte) : ListedWrites i s (t.setY v) :=
  (h.also .yh hh _).also .yl hl _

/-- All four flags. -/
theorem setFlags (h : ListedWrites i s t) (hi : writesI i = true) (hd : writesD i = true)
    (hz : writesZ s.dev.rotateZ i = true) (hc : writesC i = true) (vi vd vz vc : Bool) :
    ListedWrites i s ((((t.setI vi).setD vd).setZ vz).setC vc) :=
  (((h.setI hi _).setD hd _).setZ hz _).setC hc _

theorem setAlu (h : ListedWrites i s t) (hc : writesC i = true) (hz : writesZ s.dev.rotateZ i = true) (o : AluOut) :
    ListedWrites i s (t.setAlu o) :=
  ((h.setC hc _).setZ hz _).setDraws _

/-- What RLC and RRC do to the flags. -/
theorem rotate (h : ListedWrites i s t) (hi : ∃ r, i = .rlc r ∨ i = .rrc r) (c : Bool) (v : Nibble) :
    ListedWrites i s ((t.setC c).rotateZ v) := by
  have hc : writesC i = true := by obtain ⟨r, rfl | rfl⟩ := hi <;> rfl
  have hz : t.dev.rotateZ ≠ .keeps → writesZ s.dev.rotateZ i = true := by
    rw [h.dev_eq]
    obtain ⟨r, rfl | rfl⟩ := hi <;> simp [writesZ]
  unfold State.rotateZ
  split
  · exact h.setC hc c
  · exact (h.setC hc c).setZ (hz (by simp_all)) _
  · exact ((h.setC hc c).setZ (hz (by simp_all)) _).setDraws _

theorem jumpTo (h : ListedWrites i s t) (hc : writesCounter i = true) (hj : isJump i = true) (d : Byte) :
    ListedWrites i s (t.jumpTo d) :=
  h.setPC hc _ _ _ (.inl hj)

theorem ite {u : State} {b : Bool} (ht : ListedWrites i s t) (hu : ListedWrites i s u) :
    ListedWrites i s (if b then t else u) := by
  cases b with
  | false => exact hu
  | true => exact ht

/-! The shared operations, where they answer. -/

theorem touchSel (h : ListedWrites i s t) (r : Sel) : ListedWrites i s (t.touchSel r) := by
  cases r with
  | a | b => exact h
  | mx | my => exact h.touch _

theorem putSel {r : Sel} (h : ListedWrites i s t) (hr : destOf i = some r) (v : Nibble) :
    ListedWrites i s (t.putSel r v) := by
  cases r with
  | a => exact h.setReg .a (by simp [writesReg, hr, selIsReg]) v
  | b => exact h.setReg .b (by simp [writesReg, hr, selIsReg]) v
  | mx | my => exact h.store _ v

theorem readSel {r : Sel} {p : Nibble × State} (h : ListedWrites i s t) (hp : readSel r t = .ok p) :
    ListedWrites i s p.2 := by
  obtain ⟨-, rfl⟩ := readSel_eq_ok.mp hp
  exact h.touchSel r

theorem writeSel {r : Sel} {v : Nibble} {u : State} (h : ListedWrites i s t) (hu : writeSel r v t = .ok u)
    (hr : destOf i = some r) : ListedWrites i s u := by
  obtain ⟨-, rfl⟩ := writeSel_eq_ok.mp hu
  exact h.putSel hr v

theorem memRead {a : Addr} {p : Nibble × State} (h : ListedWrites i s t) (hp : memRead a t = .ok p) :
    ListedWrites i s p.2 := by
  obtain ⟨-, rfl⟩ := memRead_eq_ok.mp hp
  exact h.touch a

theorem memWrite {a : Addr} {v : Nibble} {u : State} (h : ListedWrites i s t) (hu : memWrite a v t = .ok u) :
    ListedWrites i s u := by
  obtain ⟨-, rfl⟩ := memWrite_eq_ok.mp hu
  exact h.store a v

theorem moveSel {r q : Sel} {u : State} (h : ListedWrites i s t) (hu : moveSel r q t = .ok u)
    (hr : destOf i = some r) : ListedWrites i s u := by
  obtain ⟨-, -, rfl⟩ := moveSel_eq_ok.mp hu
  exact (h.touchSel q).putSel hr _

theorem push {v : Nibble} {u : State} (h : ListedWrites i s t) (hu : push v t = .ok u)
    (hg : (alsoWrites i).contains .sp = true) : ListedWrites i s u := by
  obtain ⟨-, rfl⟩ := push_eq_ok.mp hu
  exact (h.also .sp hg _).store _ _

theorem pop {p : Nibble × State} (h : ListedWrites i s t) (hp : pop t = .ok p)
    (hg : (alsoWrites i).contains .sp = true) : ListedWrites i s p.2 := by
  obtain ⟨-, rfl⟩ := pop_eq_ok.mp hp
  exact (h.touch _).also .sp hg _

theorem pushReturn {u : State} (h : ListedWrites i s t) (hu : pushReturn t = .ok u)
    (hg : (alsoWrites i).contains .sp = true) : ListedWrites i s u := by
  obtain ⟨-, -, -, rfl⟩ := pushReturn_eq_ok.mp hu
  exact (((h.store _ _).store _ _).store _ _).also .sp hg _

theorem popReturn {u : State} (h : ListedWrites i s t) (hu : popReturn t = .ok u)
    (hg : (alsoWrites i).contains .sp = true) (hc : writesCounter i = true) : ListedWrites i s u := by
  obtain ⟨-, -, -, rfl⟩ := popReturn_eq_ok.mp hu
  exact ((((h.touch _).touch _).touch _).setPC hc _ _ _ (.inr (by simp))).also .sp hg _

theorem storePairX {e : Byte} {u : State} (h : ListedWrites i s t) (hu : storePairX e t = .ok u)
    (hh : (alsoWrites i).contains .xh = true) (hl : (alsoWrites i).contains .xl = true) : ListedWrites i s u := by
  obtain ⟨-, -, rfl⟩ := storePairX_eq_ok.mp hu
  exact ((h.store _ _).store _ _).setX hh hl _

/-- An instruction that answers at once. -/
theorem of_next {u : State} (h : (.next u : Host.Outcome State Fault Refusal) = .next t) (hu : ListedWrites i s u) :
    ListedWrites i s t := by
  cases h
  exact hu

/-- An instruction of one operation and then an update inside the core. -/
theorem of_bind {α : Type} {m : Except Fault α} {k : α → Except Fault State} (h : complete (m >>= k) = .next t)
    (hk : ∀ x, m = .ok x → ∀ u, k x = .ok u → ListedWrites i s u) : ListedWrites i s t := by
  obtain ⟨x, hx, ht⟩ := bind_eq_ok.mp (complete_eq_next.mp h)
  exact hk x hx t ht

/-- The update at the end of such an instruction. -/
theorem of_ok {u : State} (hu : ListedWrites i s u) :
    ∀ v, (Except.ok u : Except Fault State) = .ok v → ListedWrites i s v := by
  rintro _ ⟨⟩
  exact hu

end ListedWrites

/-- Every instruction, by its shape. -/
theorem exec_listedWrites {i : Instr} {s t : State} (h : exec i s = .next t) : ListedWrites i s t := by
  have start : ListedWrites i s s := .refl
  cases i with
  | nop5 | nop7 => exact .of_next h start
  | pset => exact .of_next h (start.setNext rfl _ _)
  | halt => exact .of_next h (start.setRun (.inl rfl) _)
  | slp => exact .of_next h (start.setRun (.inr rfl) _)
  | jp | jpba => exact .of_next h (start.jumpTo rfl rfl _)
  | jpC | jpZ => exact .of_next h (.ite (start.jumpTo rfl rfl _) start)
  | jpNC | jpNZ => exact .of_next h (.ite start (start.jumpTo rfl rfl _))
  | call | calz =>
    exact .of_bind h fun u hu => .of_ok ((start.pushReturn hu rfl).setPC rfl _ _ _ (.inr rfl))
  | ret => exact start.popReturn (complete_eq_next.mp h) rfl rfl
  | rets => exact .of_bind h fun u hu => .of_ok ((start.popReturn hu rfl rfl).setPC rfl _ _ _ (.inr rfl))
  | retd => exact .of_bind h fun u hu _ ht => (start.popReturn hu rfl rfl).storePairX ht rfl rfl
  | lbpx => exact start.storePairX (complete_eq_next.mp h) rfl rfl
  | setF | rstF => exact .of_next h (start.setFlags rfl rfl rfl rfl _ _ _ _)
  | scf | rcf => exact .of_next h (start.setC rfl _)
  | szf | rzf => exact .of_next h (start.setZ rfl _)
  | sdf | rdf => exact .of_next h (start.setD rfl _)
  | ei | di => exact .of_next h (start.setI rfl _)
  | incSP | decSP => exact .of_next h (start.also .sp rfl _)
  | incX | ldXE => exact .of_next h (start.setX rfl rfl _)
  | incY | ldYE => exact .of_next h (start.setY rfl rfl _)
  | adcXHI => exact .of_next h ((start.setAlu rfl rfl _).also .xh rfl _)
  | adcXLI => exact .of_next h ((start.setAlu rfl rfl _).also .xl rfl _)
  | adcYHI => exact .of_next h ((start.setAlu rfl rfl _).also .yh rfl _)
  | adcYLI => exact .of_next h ((start.setAlu rfl rfl _).also .yl rfl _)
  | cpXHI | cpXLI | cpYHI | cpYLI => exact .of_next h (start.setAlu rfl rfl _)
  | pushR => exact .of_bind h fun p hp _ ht => (start.readSel hp).push ht rfl
  | pushXP | pushXH | pushXL | pushYP | pushYH | pushYL | pushF => exact start.push (complete_eq_next.mp h) rfl
  | popR => exact .of_bind h fun p hp _ ht => (start.pop hp rfl).writeSel ht rfl
  | popXP => exact .of_bind h fun p hp => .of_ok ((start.pop hp rfl).also .xp rfl _)
  | popXH => exact .of_bind h fun p hp => .of_ok ((start.pop hp rfl).also .xh rfl _)
  | popXL => exact .of_bind h fun p hp => .of_ok ((start.pop hp rfl).also .xl rfl _)
  | popYP => exact .of_bind h fun p hp => .of_ok ((start.pop hp rfl).also .yp rfl _)
  | popYH => exact .of_bind h fun p hp => .of_ok ((start.pop hp rfl).also .yh rfl _)
  | popYL => exact .of_bind h fun p hp => .of_ok ((start.pop hp rfl).also .yl rfl _)
  | popF => exact .of_bind h fun p hp => .of_ok ((start.pop hp rfl).setFlags rfl rfl rfl rfl _ _ _ _)
  | ldSPHR | ldSPLR => exact .of_bind h fun p hp => .of_ok ((start.readSel hp).also .sp rfl _)
  | ldXPR => exact .of_bind h fun p hp => .of_ok ((start.readSel hp).also .xp rfl _)
  | ldXHR => exact .of_bind h fun p hp => .of_ok ((start.readSel hp).also .xh rfl _)
  | ldXLR => exact .of_bind h fun p hp => .of_ok ((start.readSel hp).also .xl rfl _)
  | ldYPR => exact .of_bind h fun p hp => .of_ok ((start.readSel hp).also .yp rfl _)
  | ldYHR => exact .of_bind h fun p hp => .of_ok ((start.readSel hp).also .yh rfl _)
  | ldYLR => exact .of_bind h fun p hp => .of_ok ((start.readSel hp).also .yl rfl _)
  | ldRXP | ldRXH | ldRXL | ldRYP | ldRYH | ldRYL | ldRSPH | ldRSPL | ldRI =>
    exact start.writeSel (complete_eq_next.mp h) rfl
  | ldRQ => exact start.moveSel (complete_eq_next.mp h) rfl
  | ldpxRQ => exact .of_bind h fun u hu => .of_ok ((start.moveSel hu rfl).setX rfl rfl _)
  | ldpyRQ => exact .of_bind h fun u hu => .of_ok ((start.moveSel hu rfl).setY rfl rfl _)
  | ldpxMXI => exact .of_bind h fun u hu => .of_ok ((start.memWrite hu).setX rfl rfl _)
  | ldpyMYI => exact .of_bind h fun u hu => .of_ok ((start.memWrite hu).setY rfl rfl _)
  | ldAMn n => exact .of_bind h fun p hp => .of_ok (((start.also .rp rfl n).memRead hp).also .a rfl _)
  | ldBMn n => exact .of_bind h fun p hp => .of_ok (((start.also .rp rfl n).memRead hp).also .b rfl _)
  | ldMnA n | ldMnB n => exact (start.also .rp rfl n).memWrite (complete_eq_next.mp h)
  | addRI | adcRI | sbcRI =>
    obtain ⟨-, -, rfl⟩ := modifySel_eq_ok.mp (complete_eq_next.mp h)
    exact ((start.touchSel _).setAlu rfl rfl _).putSel rfl _
  | andRI | orRI | xorRI | notR =>
    obtain ⟨-, -, rfl⟩ := modifySel_eq_ok.mp (complete_eq_next.mp h)
    exact ((start.touchSel _).setZ rfl _).putSel rfl _
  | rlc =>
    obtain ⟨-, -, rfl⟩ := modifySel_eq_ok.mp (complete_eq_next.mp h)
    exact ((start.touchSel _).rotate ⟨_, .inl rfl⟩ _ _).putSel rfl _
  | rrc =>
    obtain ⟨-, -, rfl⟩ := modifySel_eq_ok.mp (complete_eq_next.mp h)
    exact ((start.touchSel _).rotate ⟨_, .inr rfl⟩ _ _).putSel rfl _
  | addRQ | adcRQ | subRQ | sbcRQ =>
    obtain ⟨-, -, -, rfl⟩ := combineSel_eq_ok.mp (complete_eq_next.mp h)
    exact (((start.touchSel _).touchSel _).setAlu rfl rfl _).putSel rfl _
  | andRQ | orRQ | xorRQ =>
    obtain ⟨-, -, -, rfl⟩ := combineSel_eq_ok.mp (complete_eq_next.mp h)
    exact (((start.touchSel _).touchSel _).setZ rfl _).putSel rfl _
  | cpRI =>
    obtain ⟨-, rfl⟩ := testSel_eq_ok.mp (complete_eq_next.mp h)
    exact (start.touchSel _).setAlu rfl rfl _
  | fanRI =>
    obtain ⟨-, rfl⟩ := testSel_eq_ok.mp (complete_eq_next.mp h)
    exact (start.touchSel _).setZ rfl _
  | cpRQ =>
    obtain ⟨-, -, rfl⟩ := testSel2_eq_ok.mp (complete_eq_next.mp h)
    exact ((start.touchSel _).touchSel _).setAlu rfl rfl _
  | fanRQ =>
    obtain ⟨-, -, rfl⟩ := testSel2_eq_ok.mp (complete_eq_next.mp h)
    exact ((start.touchSel _).touchSel _).setZ rfl _
  | incMn n | decMn n =>
    obtain ⟨-, -, rfl⟩ := modifyMn_eq_ok.mp (complete_eq_next.mp h)
    exact (((start.also .rp rfl n).touch _).setAlu rfl rfl _).store _ _
  | acpx | scpx =>
    refine .of_bind h fun u hu => .of_ok ?_
    obtain ⟨-, -, -, rfl⟩ := combineMem_eq_ok.mp hu
    exact ((((start.touch _).touchSel _).setAlu rfl rfl _).store _ _).setX rfl rfl _
  | acpy | scpy =>
    refine .of_bind h fun u hu => .of_ok ?_
    obtain ⟨-, -, -, rfl⟩ := combineMem_eq_ok.mp hu
    exact ((((start.touch _).touchSel _).setAlu rfl rfl _).store _ _).setY rfl rfl _

/-! ## The frames -/

/-- Each flag, along the writes: the one case that reaches it needs the instruction listed. -/
theorem ListedWrites.flags {i : Instr} {s t : State} (h : ListedWrites i s t) :
    (writesI i = false → t.fi = s.fi) ∧ (writesD i = false → t.fd = s.fd) ∧
    (writesZ s.dev.rotateZ i = false → t.fz = s.fz) ∧ (writesC i = false → t.fc = s.fc) := by
  induction h with
  | refl => exact ⟨fun _ => rfl, fun _ => rfl, fun _ => rfl, fun _ => rfl⟩
  | setReg _ g _ v ih => rw [State.setReg_eq]; exact ih
  | setI _ hw v ih => simpa [hw] using ih.2
  | setD _ hw v ih => simpa [hw] using ih
  | setZ _ hw v ih => simpa [hw] using ih
  | setC _ hw v ih => simpa [hw] using ih
  | _ => simpa

/-- Interrupt entry: I is cleared, no other flag is written. -/
theorem raiseInterrupt_flags {v : Nibble} {s t : State} (h : raiseInterrupt v s = .ok t) :
    t.fi = false ∧ t.fd = s.fd ∧ t.fz = s.fz ∧ t.fc = s.fc := by
  obtain ⟨u, hu, rfl⟩ := raiseInterrupt_eq_ok.mp h
  obtain ⟨-, -, -, rfl⟩ := pushReturn_eq_ok.mp hu
  simp

/-- Settles O49, by induction over the writes an instruction is listed for; interrupt entry from what it does. -/
theorem flagFrame : Obligations.FlagFrame :=
  ⟨fun _ _ _ h => (exec_listedWrites h).flags, fun _ _ _ h => raiseInterrupt_flags h⟩

/-- A data register depends on the ten fields only. -/
theorem State.reg_of_eq {s t : State} (h : (t.a, t.b, t.xp, t.xh, t.xl, t.yp, t.yh, t.yl, t.sp, t.rp) =
    (s.a, s.b, s.xp, s.xh, s.xl, s.yp, s.yh, s.yl, s.sp, s.rp)) (g : Reg) : t.reg g = s.reg g := by
  simp only [Prod.mk.injEq] at h
  cases g <;> simp [State.reg, h]

theorem ListedWrites.reg {i : Instr} {s t : State} {g : Reg} (h : ListedWrites i s t) (hg : writesReg i g = false) :
    t.reg g = s.reg g := by
  induction h with
  | refl => rfl
  | setReg _ c hc v ih =>
    have hne : c ≠ g := by rintro rfl; simp [hc] at hg
    rw [State.setReg_reg_other _ v hne, ih]
  | _ => rename_i ih; exact (State.reg_of_eq (by simp) g).trans ih

/-- Settles O50, by induction over the writes an instruction is listed for. -/
theorem registerFrame : Obligations.RegisterFrame :=
  fun _ _ _ _ h hg => (exec_listedWrites h).reg hg

/-- The same for what steers the core. -/
theorem ListedWrites.control {i : Instr} {s t : State} (h : ListedWrites i s t) :
    (isJump i = false → t.pcb = s.pcb) ∧
    (writesCounter i = false → t.pcp = s.pcp ∧ t.pcs = s.pcs) ∧
    (isPset i = false → t.nbp = s.nbp ∧ t.npp = s.npp) ∧
    (i ≠ .halt → i ≠ .slp → t.run = s.run) ∧
    t.dev = s.dev ∧ t.afterPset = s.afterPset ∧ t.eiDelay = s.eiDelay ∧ t.inputs = s.inputs ∧
    t.ramEpoch = s.ramEpoch ∧ t.clocks = s.clocks := by
  induction h with
  | refl => simp
  | setReg _ g _ v ih => rw [State.setReg_eq]; exact ih
  | setPC _ hc bk pg st hb ih =>
    obtain ⟨hpcb, -, hrest⟩ := ih
    refine ⟨?_, ?_, hrest⟩
    · intro hj
      obtain rfl := hb.resolve_left (by simp [hj])
      exact hpcb hj
    · simp [hc]
  | setNext _ hp bk pg ih => simpa [hp] using ih
  | setRun _ hr v ih =>
    obtain ⟨hpcb, hpc, hnext, -, hrest⟩ := ih
    exact ⟨hpcb, hpc, hnext, fun h1 h2 => (hr.elim h1 h2).elim, hrest⟩
  | _ => simpa

/-- Settles O52, by induction over the writes an instruction is listed for. -/
theorem controlFrame : Obligations.ControlFrame :=
  fun _ _ _ h => (exec_listedWrites h).control

end Sys2Proof.Machine
end

section
/-! PROOFS. The invariant of a good state along every step. It has two halves: what is in the memories, which every
single write keeps; and the control part (NBP:NPP, the delays, the run state), which the bookkeeping at the end of a
word builds anew and a boundary keeps. -/

namespace Sys2Proof.Machine

open Sys2Proof.Config

/-! ## The two halves -/

/-- Both memories and the peripheral registers are canonical, data memory lists RAM words only. -/
structure State.MemoryGood (s : State) : Prop where
  ram : Memory.wf s.ram = true
  rom : Program.wf s.dev.rom = true
  ramOnly : s.ramOnly = true
  ioRegs : Memory.wf s.ioRegs = true
  atReset : Memory.wf s.dev.io.atReset = true

/-- NBP:NPP, the two delays and the run state belong together (10_state.md R33, R43, R44; 60_exceptions.md R304). -/
structure State.ControlGood (s : State) : Prop where
  page : s.afterPset = true ∨ s.nbp = s.pcb ∧ s.npp = s.pcp
  oneDelay : s.afterPset = true → s.eiDelay = false
  delayed : s.eiDelay = true → s.fi = true
  standby : s.run ≠ .run → s.afterPset = false ∧ (s.eiDelay = true → hasOwnWords s.dev = true)

/-- The control half, as the test `State.inv` writes it. -/
theorem State.controlGood_iff {s : State} :
    s.ControlGood ↔
      (s.afterPset || (decide (s.nbp = s.pcb) && decide (s.npp = s.pcp))) = true ∧
      (!(s.afterPset && s.eiDelay)) = true ∧ (!s.eiDelay || s.fi) = true ∧
      (decide (s.run = .run) || (!s.afterPset && (!s.eiDelay || hasOwnWords s.dev))) = true := by
  have hpage : (s.afterPset || (decide (s.nbp = s.pcb) && decide (s.npp = s.pcp))) = true ↔
      s.afterPset = true ∨ s.nbp = s.pcb ∧ s.npp = s.pcp := by simp
  have hone : (!(s.afterPset && s.eiDelay)) = true ↔ (s.afterPset = true → s.eiDelay = false) := by
    cases s.afterPset <;> simp
  have hdelayed : (!s.eiDelay || s.fi) = true ↔ (s.eiDelay = true → s.fi = true) := by
    cases s.eiDelay <;> simp
  have hstandby : (decide (s.run = .run) || (!s.afterPset && (!s.eiDelay || hasOwnWords s.dev))) = true ↔
      (s.run ≠ .run → s.afterPset = false ∧ (s.eiDelay = true → hasOwnWords s.dev = true)) := by
    cases s.eiDelay <;> simp [or_iff_not_imp_left]
  rw [hpage, hone, hdelayed, hstandby]
  exact ⟨fun ⟨h1, h2, h3, h4⟩ => ⟨h1, h2, h3, h4⟩, fun ⟨h1, h2, h3, h4⟩ => ⟨h1, h2, h3, h4⟩⟩

/-- The test is the two halves. -/
theorem State.inv_iff {s : State} : s.inv = true ↔ s.MemoryGood ∧ s.ControlGood := by
  rw [State.controlGood_iff]
  simp only [State.inv, Bool.and_eq_true]
  constructor
  · rintro ⟨⟨⟨⟨⟨⟨⟨⟨hram, hrom⟩, honly⟩, hio⟩, hreset⟩, hpage⟩, hone⟩, hdelay⟩, hstandby⟩
    exact ⟨⟨hram, hrom, honly, hio, hreset⟩, hpage, hone, hdelay, hstandby⟩
  · rintro ⟨⟨hram, hrom, honly, hio, hreset⟩, hpage, hone, hdelay, hstandby⟩
    exact ⟨⟨⟨⟨⟨⟨⟨⟨hram, hrom⟩, honly⟩, hio⟩, hreset⟩, hpage⟩, hone⟩, hdelay⟩, hstandby⟩

/-! ## The memories -/

namespace State.MemoryGood

variable {s t : State}

/-- It speaks of the memories and the device only. -/
theorem congr (h : s.MemoryGood) (hram : t.ram = s.ram) (hio : t.ioRegs = s.ioRegs) (hdev : t.dev = s.dev) :
    t.MemoryGood where
  ram := hram ▸ h.ram
  rom := hdev ▸ h.rom
  ramOnly := by simpa only [State.ramOnly, hram, hdev] using h.ramOnly
  ioRegs := hio ▸ h.ioRegs
  atReset := hdev ▸ h.atReset

theorem access (h : s.MemoryGood) (c : IoAccess) : (s.access c).MemoryGood where
  ram := h.ram
  rom := h.rom
  ramOnly := h.ramOnly
  ioRegs := ioAfter_wf _ _ h.ioRegs
  atReset := h.atReset

theorem touch (h : s.MemoryGood) (a : Addr) : (s.touch a).MemoryGood := by
  unfold State.touch
  split
  · exact (h.access _).congr rfl rfl rfl
  · exact h
  · exact h

end State.MemoryGood

/-- A cell of the list after an insertion is the inserted one or was there. -/
theorem Cells.mem_insert {w : Nat} {m : List (Nat × BitVec w)} {a : Nat} {v : BitVec w} {c : Nat × BitVec w}
    (h : c ∈ Cells.insert m a v) : c = (a, v) ∨ c ∈ m := by
  induction m with
  | nil => simpa [Cells.insert] using h
  | cons p m ih =>
    obtain ⟨b, u⟩ := p
    unfold Cells.insert at h
    split at h
    · simpa using h
    · split at h
      · simp only [List.mem_cons] at h ⊢
        exact h.imp_right .inr
      · simp only [List.mem_cons] at h ⊢
        rcases h with h | h
        · exact .inr (.inl h)
        · exact (ih h).imp_right .inr

namespace State.MemoryGood

variable {s t : State}

theorem store (h : s.MemoryGood) (a : Addr) (v : Nibble) : (s.store a v).MemoryGood := by
  cases hk : s.kindAt a with
  | absent => simpa [State.store, hk] using h
  | io => simpa [State.store, hk] using h.access _
  | ram =>
    refine ⟨State.store_ram_wf h.ram a v, by simpa using h.rom, ?_, State.store_ioRegs_wf h.ioRegs a v,
      by simpa using h.atReset⟩
    have honly := h.ramOnly
    simp only [State.ramOnly, List.all_eq_true, decide_eq_true_eq, State.store_dev] at honly ⊢
    intro c hc
    simp only [State.store, hk, State.setRam_ram] at hc
    rcases Cells.mem_insert hc with rfl | hc
    · exact hk
    · exact honly c hc

end State.MemoryGood

/-- Execution keeps the memories good: it reads and stores. -/
theorem ListedWrites.memoryGood {i : Instr} {s t : State} (h : ListedWrites i s t) (hs : s.MemoryGood) :
    t.MemoryGood := by
  induction h with
  | refl => exact hs
  | touch _ a ih => exact ih.touch a
  | store _ a v ih => exact ih.store a v
  | setReg _ g _ v ih => rw [State.setReg_eq]; exact ih.congr rfl rfl rfl
  | _ => rename_i ih; exact ih.congr rfl rfl rfl

@[simp] theorem State.setPlace_ram (s : State) (v : Nibble) (g : Place) : (s.setPlace v g).ram = s.ram := by
  cases g <;> rfl

@[simp] theorem State.setPlace_ioRegs (s : State) (v : Nibble) (g : Place) : (s.setPlace v g).ioRegs = s.ioRegs := by
  cases g <;> rfl

theorem State.MemoryGood.setPlace {s : State} (h : s.MemoryGood) (v : Nibble) (g : Place) :
    (s.setPlace v g).MemoryGood :=
  h.congr (State.setPlace_ram ..) (State.setPlace_ioRegs ..) (State.setPlace_dev ..)

theorem State.MemoryGood.executeWord {w : Treatment} {s t : State} (h : s.MemoryGood)
    (hx : executeWord w s = .next t) : t.MemoryGood := by
  cases w with
  | secondCode i => exact (exec_listedWrites hx).memoryGood h
  | own l clk =>
    exact runSteps_keeps (P := State.MemoryGood) (fun _ _ _ hu hx => (exec_listedWrites hx).memoryGood hu)
      (fun g v _ hu => hu.setPlace v g) (fun _ _ hu => hu.congr rfl rfl rfl) l 0 0 s t h hx

/-- The device is plain data that no execution changes. -/
theorem executeWord_dev {w : Treatment} {s t : State} (hx : executeWord w s = .next t) : t.dev = s.dev := by
  cases w with
  | secondCode i => exact (exec_listedWrites hx).dev_eq
  | own l clk =>
    exact runSteps_keeps (P := fun u => u.dev = s.dev) (fun _ _ _ hu hx => (exec_listedWrites hx).dev_eq.trans hu)
      (fun _ _ _ hu => (State.setPlace_dev ..).trans hu) (fun _ _ hu => hu) l 0 0 s t rfl hx

theorem State.MemoryGood.pushReturn {s t : State} (h : s.MemoryGood) (hp : pushReturn s = .ok t) : t.MemoryGood := by
  obtain ⟨-, -, -, rfl⟩ := pushReturn_eq_ok.mp hp
  exact (((h.store _ _).store _ _).store _ _).congr rfl rfl rfl

/-! ## The end of a fetched word -/

/-- Only a device with instructions of its own can give a word steps. -/
theorem own_mem_of_treatmentOf {l : List (Word × Treatment)} {w : Word} {steps : List Micro} {clk : Nat}
    (h : treatmentOf l w = some (.own steps clk)) : ∃ p ∈ l, p.2 = .own steps clk := by
  induction l with
  | nil => cases h
  | cons p l ih =>
    obtain ⟨v, d⟩ := p
    simp only [treatmentOf] at h
    split at h
    · exact ⟨_, List.mem_cons_self, by simpa using h⟩
    · obtain ⟨q, hq, hd⟩ := ih h
      exact ⟨q, List.mem_cons_of_mem _ hq, hd⟩

/-- Steps come from `UNASSIGNED_OPCODE` alone: a decoded word is one instruction. -/
theorem treatmentOf_of_operationOf {d : Device} {w : Word} {steps : List Micro} {clk : Nat}
    (h : operationOf d w = .ok (.own steps clk)) : treatmentOf d.unassigned w = some (.own steps clk) := by
  cases ht : treatmentOf d.unassigned w with
  | some t =>
    simp only [operationOf, ht] at h
    split at h
    · simpa using h
    · split at h
      · simp at h
      · simpa using h
  | none =>
    simp only [operationOf, ht] at h
    split at h
    · simp at h
    · split at h <;> simp at h

theorem hasOwnWords_of_fetch {s : State} {steps : List Micro} {clk : Nat} (h : fetch s = .ok (.own steps clk)) :
    hasOwnWords s.dev = true := by
  unfold fetch at h
  split at h
  · obtain ⟨p, hp, hd⟩ := own_mem_of_treatmentOf (treatmentOf_of_operationOf h)
    exact List.any_eq_true.mpr ⟨p, hp, by rw [hd]⟩
  · cases h

theorem writesI_of_isPset {i : Instr} (h : isPset i = true) : writesI i = false := by
  unfold isPset at h
  split at h
  · rfl
  · cases h

/-- The bookkeeping builds the control part, from whatever an instruction leaves. PSET, HALT and SLP do not write I, so
no delay of interrupt enabling begins at their end. -/
theorem controlGood_endOfInstr {i : Instr} {s t : State} (hr : s.run = .run) (h : exec i s = .next t) :
    (endOfInstr i s t).ControlGood := by
  have hx := exec_listedWrites h
  obtain ⟨hfi, -, -, -⟩ := hx.flags
  obtain ⟨-, -, -, hrun, -⟩ := hx.control
  rw [endOfInstr_eq]
  refine ⟨?_, ?_, ?_, ?_⟩
  · cases isPset i <;> simp
  · intro hp
    simp [hfi (writesI_of_isPset hp)]
  · simp
  · intro hstop
    have hi : i = .halt ∨ i = .slp := by
      by_contra hn
      obtain ⟨h1, h2⟩ := not_or.mp hn
      exact hstop ((hrun h1 h2).trans hr)
    obtain rfl | rfl := hi
    · simp [isPset, hfi rfl]
    · simp [isPset, hfi rfl]

theorem controlGood_endOf_own {clk : Nat} {s t : State} (h : hasOwnWords t.dev = true) :
    (endOf false clk s t).ControlGood := by
  rw [endOf_eq]
  exact ⟨by simp, by simp, by simp, by simp [h]⟩

theorem State.inv_finishWord {w : Treatment} {s t : State} (hs : s.inv = true) (hr : s.run = .run)
    (hf : fetch s = .ok w) (hx : executeWord w s.advance = .next t) : (finishWord w s.advance t).inv = true := by
  obtain ⟨hm, -⟩ := State.inv_iff.mp hs
  have hm : t.MemoryGood := State.MemoryGood.executeWord (s := s.advance) (hm.congr rfl rfl rfl) hx
  refine State.inv_iff.mpr ⟨?_, ?_⟩
  · obtain ⟨_, _, he⟩ := finishWord_eq w s.advance t
    exact he ▸ hm.congr rfl rfl rfl
  · cases w with
    | secondCode i => exact controlGood_endOfInstr (s := s.advance) hr hx
    | own l clk =>
      refine controlGood_endOf_own ?_
      rw [executeWord_dev hx]
      exact hasOwnWords_of_fetch (s := s) hf

/-! ## The boundary -/

theorem State.inv_setInputs {s : State} (h : s.inv = true) (l : List Input) : (s.setInputs l).inv = true := h

theorem State.inv_initialReset {s : State} (h : s.inv = true) : s.initialReset.inv = true := by
  obtain ⟨hm, -⟩ := State.inv_iff.mp h
  exact State.inv_iff.mpr
    ⟨⟨rfl, hm.rom, rfl, hm.atReset, hm.atReset⟩, .inr ⟨rfl, rfl⟩, nofun, nofun, fun hr => absurd rfl hr⟩

theorem State.inv_raiseInterrupt {v : Nibble} {s t : State} (h : s.inv = true) (hv : raiseInterrupt v s = .ok t) :
    t.inv = true := by
  obtain ⟨hm, -⟩ := State.inv_iff.mp h
  obtain ⟨u, hu, rfl⟩ := raiseInterrupt_eq_ok.mp hv
  exact State.inv_iff.mpr
    ⟨(hm.pushReturn hu).congr rfl rfl rfl, .inr ⟨rfl, rfl⟩, nofun, nofun, fun hr => absurd rfl hr⟩

/-- A reset out of a stop. -/
theorem State.inv_reset_after {s : State} (h : s.inv = true) (rest : List Input) :
    (s.setInputs rest).initialReset.inv = true :=
  State.inv_initialReset (s := s.setInputs rest) (State.inv_setInputs h rest)

theorem State.inv_boundary {s t : State} (h : s.inv = true) (hb : s.boundary = .ok t) : t.inv = true := by
  rcases State.boundary_cases hb with
    ⟨-, rfl⟩ | ⟨rest, -, rfl⟩ | ⟨rest, -, rfl⟩ | ⟨v, rest, -, -, hv⟩ | ⟨v, rest, -, -, rfl⟩
  · exact h
  · exact State.inv_setInputs h rest
  · exact State.inv_reset_after h rest
  · exact State.inv_raiseInterrupt (State.inv_setInputs h rest) hv
  · exact State.inv_setInputs h rest

theorem State.inv_settle {s t : State} (h : s.inv = true) (hs : s.settle = .next t) : t.inv = true := by
  rcases State.settle_eq_next.mp hs with hb | ⟨f, -, hf⟩
  · exact State.inv_boundary h hb
  · obtain ⟨rest, -, rfl⟩ := State.stopped_eq_next.mp hf
    exact State.inv_reset_after h rest

/-- In HALT or SLEEP after_pset is clear already, so NBP:NPP are PCB:PCP. -/
theorem State.inv_standby {s : State} (h : s.inv = true) (hr : s.run ≠ .run) :
    (s.setHidden false false).inv = true := by
  obtain ⟨hm, hc⟩ := State.inv_iff.mp h
  have hpage : s.nbp = s.pcb ∧ s.npp = s.pcp := hc.page.resolve_left (by simp [(hc.standby hr).1])
  exact State.inv_iff.mpr ⟨hm.congr rfl rfl rfl, .inr hpage, nofun, nofun, fun _ => ⟨rfl, nofun⟩⟩

/-- Settles O10: each of the three things a step can be keeps the invariant. -/
theorem stepKeepsInvariant : Obligations.StepKeepsInvariant := by
  intro s t hs h
  rcases step_cases h with ⟨hr, hb⟩ | ⟨hr, w, u, hf, hx, hb⟩ | ⟨rest, -, rfl⟩
  · exact State.inv_settle (State.inv_standby hs hr) hb
  · exact State.inv_settle (State.inv_finishWord hs hr hf hx) hb
  · exact State.inv_reset_after hs rest

/-- Settles O9, both halves by evaluation of the reset state. -/
theorem resetSatisfiesInvariant : Obligations.ResetSatisfiesInvariant :=
  State.inv_iff.mpr ⟨⟨rfl, rfl, rfl, rfl, rfl⟩, .inr ⟨rfl, rfl⟩, nofun, nofun, fun hr => absurd rfl hr⟩

end Sys2Proof.Machine
end

section
/-! PROOFS. The register area and RP (10_state.md R27). No operation on data memory looks at RP, so each commutes with a
change of RP; sequences of such operations do, and with them every instruction but the six Mn forms, which write RP
before anything else. -/

namespace Sys2Proof.Machine

open Sys2Proof.Config

/-! ## RP and the memories -/

section Commute

variable (s : State) (n : Nibble)

@[simp] theorem State.setRP_word (a : Addr) : (s.setRP n).word a = s.word a := rfl

theorem State.setRP_touch (a : Addr) : (s.setRP n).touch a = (s.touch a).setRP n := by
  unfold State.touch
  rw [State.setRP_kindAt]
  split <;> rfl

theorem State.setRP_store (a : Addr) (v : Nibble) : (s.setRP n).store a v = (s.store a v).setRP n := by
  unfold State.store
  rw [State.setRP_kindAt]
  split <;> rfl

theorem State.setRP_rotateZ (v : Nibble) : (s.setRP n).rotateZ v = (s.rotateZ v).setRP n := by
  unfold State.rotateZ
  rw [State.setRP_dev]
  split <;> rfl

end Commute

/-! ## Sequences of operations that do not look at RP -/

/-- `m'` answers what `m` answers, with `up` done to the answer, and stops where `m` stops. -/
def Shadows {α : Type} (up : α → α) (m m' : Except Fault α) : Prop := m' = m.map up

/-- A word read and a state, RP of the state changed. -/
def rpOf (n : Nibble) (p : Nibble × State) : Nibble × State := (p.1, p.2.setRP n)

namespace Shadows

variable {α β : Type} {n : Nibble} {s : State}

theorem bind {up : α → α} {up' : β → β} {m m' : Except Fault α} {k k' : α → Except Fault β} (hm : Shadows up m m')
    (hk : ∀ x, Shadows up' (k x) (k' (up x))) : Shadows up' (m >>= k) (m' >>= k') := by
  rw [Shadows] at hm
  subst hm
  cases m with
  | ok x => exact hk x
  | error f => rfl

theorem memRead (n : Nibble) (a : Addr) (s : State) : Shadows (rpOf n) (memRead a s) (memRead a (s.setRP n)) := by
  unfold Machine.memRead
  rw [State.setRP_present, State.setRP_touch]
  split <;> rfl

theorem memWrite (n : Nibble) (a : Addr) (v : Nibble) (s : State) :
    Shadows (·.setRP n) (memWrite a v s) (memWrite a v (s.setRP n)) := by
  unfold Machine.memWrite
  rw [State.setRP_present, State.setRP_store]
  split <;> rfl

theorem readSel (n : Nibble) (r : Sel) (s : State) : Shadows (rpOf n) (readSel r s) (readSel r (s.setRP n)) := by
  cases r with
  | a | b => rfl
  | mx | my => exact memRead n _ s

theorem writeSel (n : Nibble) (r : Sel) (v : Nibble) (s : State) :
    Shadows (·.setRP n) (writeSel r v s) (writeSel r v (s.setRP n)) := by
  cases r with
  | a | b => rfl
  | mx | my => exact memWrite n _ v s

theorem moveSel (n : Nibble) (r q : Sel) (s : State) :
    Shadows (·.setRP n) (moveSel r q s) (moveSel r q (s.setRP n)) :=
  (readSel n q s).bind fun p => writeSel n r p.1 p.2

theorem push (n : Nibble) (v : Nibble) (s : State) : Shadows (·.setRP n) (push v s) (push v (s.setRP n)) :=
  memWrite n _ v (s.setSP (s.sp - 1))

theorem pop (n : Nibble) (s : State) : Shadows (rpOf n) (pop s) (pop (s.setRP n)) :=
  (memRead n _ s).bind fun _ => rfl

theorem pushReturn (n : Nibble) (s : State) : Shadows (·.setRP n) (pushReturn s) (pushReturn (s.setRP n)) :=
  (memWrite n _ _ s).bind fun s1 => (memWrite n _ _ s1).bind fun s2 => (memWrite n _ _ s2).bind fun _ => rfl

theorem popReturn (n : Nibble) (s : State) : Shadows (·.setRP n) (popReturn s) (popReturn (s.setRP n)) :=
  (memRead n _ s).bind fun p1 => (memRead n _ p1.2).bind fun p2 => (memRead n _ p2.2).bind fun _ => rfl

theorem storePairX (n : Nibble) (e : Byte) (s : State) :
    Shadows (·.setRP n) (storePairX e s) (storePairX e (s.setRP n)) :=
  (memWrite n _ _ s).bind fun s1 => (memWrite n _ _ s1).bind fun _ => rfl

section Shapes

variable {op : Nibble → State → Nibble × State} {op2 : Nibble → Nibble → State → Nibble × State}

theorem modifySel (n : Nibble) (r : Sel) (s : State) (hop : ∀ v u, op v (u.setRP n) = rpOf n (op v u)) :
    Shadows (·.setRP n) (modifySel r op s) (modifySel r op (s.setRP n)) :=
  (readSel n r s).bind fun p => by
    simp only [rpOf, hop]
    exact writeSel n r _ _

theorem combineSel (n : Nibble) (r q : Sel) (s : State) (hop : ∀ v w u, op2 v w (u.setRP n) = rpOf n (op2 v w u)) :
    Shadows (·.setRP n) (combineSel r q op2 s) (combineSel r q op2 (s.setRP n)) :=
  (readSel n r s).bind fun p => (readSel n q p.2).bind fun _ => by
    simp only [rpOf, hop]
    exact writeSel n r _ _

theorem testSel (n : Nibble) (r : Sel) (s : State) (hop : ∀ v u, op v (u.setRP n) = rpOf n (op v u)) :
    Shadows (·.setRP n) (testSel r op s) (testSel r op (s.setRP n)) :=
  (readSel n r s).bind fun p => by
    simp only [rpOf, hop]
    rfl

theorem testSel2 (n : Nibble) (r q : Sel) (s : State) (hop : ∀ v w u, op2 v w (u.setRP n) = rpOf n (op2 v w u)) :
    Shadows (·.setRP n) (testSel2 r q op2 s) (testSel2 r q op2 (s.setRP n)) :=
  (readSel n r s).bind fun p => (readSel n q p.2).bind fun _ => by
    simp only [rpOf, hop]
    rfl

theorem combineMem (n : Nibble) (a : Addr) (r : Sel) (s : State)
    (hop : ∀ v w u, op2 v w (u.setRP n) = rpOf n (op2 v w u)) :
    Shadows (·.setRP n) (combineMem a r op2 s) (combineMem a r op2 (s.setRP n)) :=
  (memRead n a s).bind fun p => (readSel n r p.2).bind fun _ => by
    simp only [rpOf, hop]
    exact memWrite n a _ _

end Shapes

end Shadows

/-- An instruction's outcome from a state with RP changed to `n`: what it answers has RP changed too, its stops are the
same. -/
def CarriesRP (n : Nibble) (o o' : Host.Outcome State Fault Refusal) : Prop :=
  (∀ t, o = .next t → o' = .next (t.setRP n)) ∧ ∀ f, o = .fault f → o' = .fault f

namespace CarriesRP

variable {n : Nibble}

theorem next (t : State) : CarriesRP n (.next t) (.next (t.setRP n)) := by
  simp [CarriesRP]

theorem fault (f : Fault) : CarriesRP n (.fault f) (.fault f) := by
  simp [CarriesRP]

theorem ite (b : Bool) (t u : State) :
    CarriesRP n (.next (if b then t else u)) (.next (if b then t.setRP n else u.setRP n)) := by
  cases b with
  | false => exact next u
  | true => exact next t

theorem of_shadows {m m' : Except Fault State} (h : Shadows (·.setRP n) m m') :
    CarriesRP n (complete m) (complete m') := by
  rw [Shadows] at h
  subst h
  cases m with
  | ok t => exact next t
  | error f => exact fault f

end CarriesRP

theorem rotateLeft4_setRP (n v : Nibble) (s : State) : rotateLeft4 v (s.setRP n) = rpOf n (rotateLeft4 v s) :=
  Prod.ext rfl (State.setRP_rotateZ (s.setC _) n _)

theorem rotateRight4_setRP (n v : Nibble) (s : State) : rotateRight4 v (s.setRP n) = rpOf n (rotateRight4 v s) :=
  Prod.ext rfl (State.setRP_rotateZ (s.setC _) n _)

/-! ## Every instruction -/

/-- The six forms that name a word of the register area. -/
def registerForms (n : Nibble) : List Instr := [.ldAMn n, .ldBMn n, .ldMnA n, .ldMnB n, .incMn n, .decMn n]

/-- An Mn form sets RP first: what RP was does not matter at all. -/
theorem exec_setRP_of_registerForm {i : Instr} {n : Nibble} (hi : i ∈ registerForms n) (s : State) (v : Nibble) :
    exec i (s.setRP v) = exec i s := by
  simp only [registerForms, List.mem_cons, List.not_mem_nil, or_false] at hi
  rcases hi with rfl | rfl | rfl | rfl | rfl | rfl <;> rfl

/-- Every other instruction carries a changed RP along. -/
theorem exec_setRP {i : Instr} (hi : ∀ n, i ∉ registerForms n) (s : State) (v : Nibble) :
    CarriesRP v (exec i s) (exec i (s.setRP v)) := by
  cases i with
  | ldAMn n | ldBMn n | ldMnA n | ldMnB n | incMn n | decMn n => exact absurd (by simp [registerForms]) (hi n)
  | pset | jp | jpba | nop5 | nop7 | halt | slp | setF | rstF | scf | rcf | szf | rzf | sdf | rdf | ei | di
  | incSP | decSP | incX | incY | ldXE | ldYE | adcXHI | adcXLI | adcYHI | adcYLI | cpXHI | cpXLI | cpYHI | cpYLI =>
    exact .next _
  | jpC | jpNC | jpZ | jpNZ => exact .ite _ _ _
  | call | calz => exact .of_shadows ((Shadows.pushReturn v s).bind fun _ => rfl)
  | ret => exact .of_shadows (Shadows.popReturn v s)
  | rets => exact .of_shadows ((Shadows.popReturn v s).bind fun _ => rfl)
  | retd e => exact .of_shadows ((Shadows.popReturn v s).bind fun u => Shadows.storePairX v e u)
  | lbpx e => exact .of_shadows (Shadows.storePairX v e s)
  | pushR r => exact .of_shadows ((Shadows.readSel v r s).bind fun p => Shadows.push v p.1 p.2)
  | pushXP | pushXH | pushXL | pushYP | pushYH | pushYL | pushF => exact .of_shadows (Shadows.push v _ s)
  | popR r => exact .of_shadows ((Shadows.pop v s).bind fun p => Shadows.writeSel v r p.1 p.2)
  | popXP | popXH | popXL | popYP | popYH | popYL | popF => exact .of_shadows ((Shadows.pop v s).bind fun _ => rfl)
  | ldXPR r | ldXHR r | ldXLR r | ldYPR r | ldYHR r | ldYLR r | ldSPHR r | ldSPLR r =>
    exact .of_shadows ((Shadows.readSel v r s).bind fun _ => rfl)
  | ldRXP r | ldRXH r | ldRXL r | ldRYP r | ldRYH r | ldRYL r | ldRSPH r | ldRSPL r | ldRI r =>
    exact .of_shadows (Shadows.writeSel v r _ s)
  | ldRQ r q => exact .of_shadows (Shadows.moveSel v r q s)
  | ldpxRQ r q | ldpyRQ r q => exact .of_shadows ((Shadows.moveSel v r q s).bind fun _ => rfl)
  | ldpxMXI | ldpyMYI => exact .of_shadows ((Shadows.memWrite v _ _ s).bind fun _ => rfl)
  | addRI r | adcRI r | sbcRI r | andRI r | orRI r | xorRI r | notR r =>
    exact .of_shadows (Shadows.modifySel v r s fun _ _ => rfl)
  | rlc r => exact .of_shadows (Shadows.modifySel v r s (rotateLeft4_setRP v))
  | rrc r => exact .of_shadows (Shadows.modifySel v r s (rotateRight4_setRP v))
  | addRQ r q | adcRQ r q | subRQ r q | sbcRQ r q | andRQ r q | orRQ r q | xorRQ r q =>
    exact .of_shadows (Shadows.combineSel v r q s fun _ _ _ => rfl)
  | cpRI r | fanRI r => exact .of_shadows (Shadows.testSel v r s fun _ _ => rfl)
  | cpRQ r q | fanRQ r q => exact .of_shadows (Shadows.testSel2 v r q s fun _ _ _ => rfl)
  | acpx r | acpy r | scpx r | scpy r =>
    exact .of_shadows ((Shadows.combineMem v _ r s fun _ _ _ => rfl).bind fun _ => rfl)

/-- RP after an Mn form: set before the access, and no access changes it. -/
theorem rp_of_registerForm {i : Instr} {n : Nibble} (hi : i ∈ registerForms n) {s t : State} (h : exec i s = .next t) :
    t.rp = n := by
  simp only [registerForms, List.mem_cons, List.not_mem_nil, or_false] at hi
  rcases hi with rfl | rfl | rfl | rfl | rfl | rfl
  case inl | inr.inl =>
    obtain ⟨p, hp, ht⟩ := bind_eq_ok.mp (complete_eq_next.mp h)
    obtain ⟨-, rfl⟩ := memRead_eq_ok.mp hp
    cases ht
    simp
  case inr.inr.inl | inr.inr.inr.inl =>
    obtain ⟨-, rfl⟩ := memWrite_eq_ok.mp (complete_eq_next.mp h)
    simp
  all_goals
    obtain ⟨-, -, rfl⟩ := modifyMn_eq_ok.mp (complete_eq_next.mp h)
    simp [add4, sub4]

/-- RP is never a destination operand, and no other instruction is listed as its writer. -/
theorem writesReg_rp_of_not_registerForm {i : Instr} (hi : ∀ n, i ∉ registerForms n) : writesReg i .rp = false := by
  have hdest : ∀ r, selIsReg r .rp = false := by rintro (_ | _ | _ | _) <;> rfl
  have halso : (alsoWrites i).contains .rp = false := by
    cases i with
    | ldAMn n | ldBMn n | ldMnA n | ldMnB n | incMn n | decMn n => exact absurd (by simp [registerForms]) (hi n)
    | _ => rfl
  unfold writesReg
  rw [halso, Bool.or_false]
  split
  · exact hdest _
  · rfl

/-- Settles O55: an Mn form overwrites RP first, every other instruction carries it along. -/
theorem registerPointerIsNotObservable : Obligations.RegisterPointerIsNotObservable := by
  refine ⟨fun n s t i hi h => rp_of_registerForm hi h, fun i s v => ?_⟩
  by_cases hi : ∃ n, i ∈ registerForms n
  · obtain ⟨n, hi⟩ := hi
    have hx : exec i { s with rp := v } = exec i s := exec_setRP_of_registerForm hi s v
    exact ⟨fun t h => ⟨t.rp, hx.trans h, fun hn => absurd hi (hn n)⟩, fun f h => hx.trans h⟩
  · have hi : ∀ n, i ∉ registerForms n := not_exists.mp hi
    obtain ⟨hnext, hfault⟩ := exec_setRP hi s v
    refine ⟨fun t h => ⟨v, hnext t h, fun _ => ⟨rfl, ?_⟩⟩, hfault⟩
    have hrp : t.reg .rp = s.reg .rp := (exec_listedWrites h).reg (writesReg_rp_of_not_registerForm hi)
    exact BitVec.eq_of_toNat_eq hrp

/-! ## The register area -/

theorem regAddr_eq : ∀ n : Nibble, regAddr n = BitVec.ofNat 12 n.toNat := by decide

/-- Settles O34: RP is set first, then the one access is made. -/
theorem directLoads : Obligations.DirectLoads := by
  intro s n m hm
  have hm' : (s.setRP n).present (regAddr n) = true := by rw [regAddr_eq]; exact hm
  have hread : memRead (regAddr n) (s.setRP n) = .ok (s.word m, (s.touch m).setRP n) := by
    rw [memRead_of_present hm', State.setRP_touch, State.setRP_word, regAddr_eq]
  have hwrite (v : Nibble) : memWrite (regAddr n) v (s.setRP n) = .ok ((s.store m v).setRP n) := by
    rw [memWrite_of_present hm', State.setRP_store, regAddr_eq]
  refine ⟨⟨⟨rfl, rfl⟩, ?_⟩, ⟨⟨rfl, rfl⟩, ?_⟩, ⟨⟨rfl, rfl⟩, ?_⟩, ⟨rfl, rfl⟩, ?_⟩
  · exact complete_eq_next.mpr (bind_eq_ok.mpr ⟨_, hread, rfl⟩)
  · exact complete_eq_next.mpr (bind_eq_ok.mpr ⟨_, hread, rfl⟩)
  · exact complete_eq_next.mpr (hwrite s.a)
  · exact complete_eq_next.mpr (hwrite s.b)

/-- Counting up by one in hexadecimal mode: a carry out of 15, and then zero. -/
theorem addHex_one : ∀ v : Nibble, addHex v 1 false = ⟨v + 1, decide (v = 15), decide (v = 15), false⟩ := by decide

/-- Counting down by one in hexadecimal mode: a borrow at 0, zero from 1. -/
theorem subHex_one : ∀ v : Nibble, subHex v 1 false = ⟨v - 1, decide (v = 0), decide (v = 1), false⟩ := by decide

/-- The addition of INC Mn is not decimal, whatever D is. -/
theorem add4_one (v : Nibble) (s : State) :
    add4 v 1 false false s = (v + 1, { s with fc := decide (v = 15), fz := decide (v = 15) }) := by
  change ((addHex v 1 false).result, s.setAlu (addHex v 1 false)) = _
  rw [addHex_one]
  rfl

/-- Nor is the subtraction of DEC Mn. -/
theorem sub4_one (v : Nibble) (s : State) :
    sub4 v 1 false false s = (v - 1, { s with fc := decide (v = 0), fz := decide (v = 1) }) := by
  change ((subHex v 1 false).result, s.setAlu (subHex v 1 false)) = _
  rw [subHex_one]
  rfl

/-- INC Mn and DEC Mn, for an operation that gives `w` and leaves `u` with the same device. -/
theorem modifyMn_of_present {n : Nibble} {op : Nibble → State → Nibble × State} {s u : State} {w : Nibble}
    (h : s.present (regAddr n) = true) (hop : op (s.word (regAddr n)) ((s.touch (regAddr n)).setRP n) = (w, u))
    (hu : u.dev = s.dev) : modifyMn n op s = .ok (u.store (regAddr n) w) := by
  rw [← State.setRP_touch, ← State.setRP_word s n] at hop
  refine modifyMn_eq_ok.mpr ⟨h, ?_, ?_⟩
  · rw [hop, State.present_of_dev hu, h]
  · rw [hop]

/-- Settles O48: one read-modify-write of the word, with the ALU's counting up and down by one. -/
theorem registerAreaCounters : Obligations.RegisterAreaCounters := by
  intro s n m hm
  simp only [m, ← regAddr_eq] at hm ⊢
  exact ⟨⟨⟨rfl, rfl⟩, complete_eq_next.mpr (modifyMn_of_present hm (add4_one _ _) (State.touch_dev ..))⟩,
    ⟨rfl, rfl⟩, complete_eq_next.mpr (modifyMn_of_present hm (sub4_one _ _) (State.touch_dev ..))⟩

end Sys2Proof.Machine
end

section
/-! PROOFS. Instructions whose whole effect is a field or two of the core: PSET, the flag instructions, the 8-bit index
registers, the rotates. Each meaning is one update, so what is to be shown is what the update's bits are. -/

namespace Sys2Proof.Machine

open Sys2Proof.Config

/-! ## PSET (40_branch.md R120) -/

/-- After PSET no request is accepted at its own boundary. -/
theorem State.accepts_of_afterPset {s : State} (h : s.afterPset = true) (v : Nibble) : s.accepts v = false := by
  simp [State.accepts, h]

theorem bank_bit_of_operand : ∀ p : BitVec 5, p.extractLsb' 4 1 = BitVec.ofBool (p.getLsbD 4) := by decide

theorem page_of_operand : ∀ p : BitVec 5, p.extractLsb' 0 4 = p.setWidth 4 := by decide

theorem exec_pset (p : BitVec 5) (s : State) :
    exec (.pset p) s = .next { s with nbp := BitVec.ofBool (p.getLsbD 4), npp := p.setWidth 4 } := by
  rw [← bank_bit_of_operand, ← page_of_operand]
  rfl

/-- Settles O11: PSET's one update, and after_pset at its end. -/
theorem psetEffect : Obligations.PsetEffect := fun p s =>
  ⟨⟨rfl, rfl⟩, _, exec_pset p s, rfl, rfl, rfl, rfl, fun v => State.accepts_of_afterPset rfl v⟩

/-! ## The flag instructions (42_flag.md R150 to R159) -/

/-- The bits of F joined with a mask. -/
theorem flags_or : ∀ (i : Nibble) (fi fd fz fc : Bool),
    (BitVec.ofBool (fi || i.getLsbD 3) ++ BitVec.ofBool (fd || i.getLsbD 2) ++ BitVec.ofBool (fz || i.getLsbD 1) ++
      BitVec.ofBool (fc || i.getLsbD 0) : Nibble) =
    (BitVec.ofBool fi ++ BitVec.ofBool fd ++ BitVec.ofBool fz ++ BitVec.ofBool fc) ||| i := by decide

/-- The bits of F cut down to a mask. -/
theorem flags_and : ∀ (i : Nibble) (fi fd fz fc : Bool),
    (BitVec.ofBool (fi && i.getLsbD 3) ++ BitVec.ofBool (fd && i.getLsbD 2) ++ BitVec.ofBool (fz && i.getLsbD 1) ++
      BitVec.ofBool (fc && i.getLsbD 0) : Nibble) =
    (BitVec.ofBool fi ++ BitVec.ofBool fd ++ BitVec.ofBool fz ++ BitVec.ofBool fc) &&& i := by decide

theorem State.orFlags_f (s : State) (i : Nibble) : (s.orFlags i).f = s.f ||| i := flags_or i s.fi s.fd s.fz s.fc

theorem State.andFlags_f (s : State) (i : Nibble) : (s.andFlags i).f = s.f &&& i := flags_and i s.fi s.fd s.fz s.fc

theorem endOfInstr_eiDelay (i : Instr) (s t : State) : (endOfInstr i s t).eiDelay = (!s.fi && t.fi) := by
  rw [endOfInstr_eq]

/-- RST F,i never raises I. -/
theorem State.not_fi_and_andFlags_fi (s : State) (i : Nibble) : (!s.fi && (s.andFlags i).fi) = false := by
  cases h : s.fi <;> simp [State.andFlags, h]

/-- Settles O20, by the bits of F under a mask. -/
theorem setAndResetFlags : Obligations.SetAndResetFlags := fun i s =>
  ⟨⟨rfl, rfl⟩, ⟨rfl, rfl⟩, ⟨_, rfl, s.orFlags_f i, rfl, endOfInstr_eiDelay ..⟩,
    _, rfl, s.andFlags_f i, rfl, (endOfInstr_eiDelay ..).trans (s.not_fi_and_andFlags_fi i)⟩

theorem State.accepts_of_not_fi {s : State} (h : s.fi = false) (v : Nibble) : s.accepts v = false := by
  simp [State.accepts, h]

/-- Settles O21: each form is one update; the bookkeeping compares I before and after. -/
theorem singleFlagForms : Obligations.SingleFlagForms := by
  intro s
  refine ⟨⟨⟨rfl, rfl⟩, rfl⟩, ⟨⟨rfl, rfl⟩, rfl⟩, ⟨⟨rfl, rfl⟩, rfl⟩, ⟨⟨rfl, rfl⟩, rfl⟩, ⟨⟨rfl, rfl⟩, rfl⟩,
    ⟨⟨rfl, rfl⟩, rfl⟩, ⟨⟨rfl, rfl⟩, rfl, ?_⟩, ⟨rfl, rfl⟩, rfl, fun v => State.accepts_of_not_fi rfl v⟩
  rw [endOfInstr_eiDelay, Bool.and_true]

/-! ## The 8-bit index registers (44_index.md R195 to R198) -/

theorem hiNibble_toNat (v : Byte) : (hiNibble v).toNat = v.toNat / 16 := by
  have := v.isLt
  simp [hiNibble, Nat.shiftRight_eq_div_pow]
  omega

theorem loNibble_toNat (v : Byte) : (loNibble v).toNat = v.toNat % 16 := by
  simp [loNibble]

/-- A byte is its two halves. -/
theorem halves_toNat (v : Byte) : (hiNibble v).toNat * 16 + (loNibble v).toNat = v.toNat := by
  rw [hiNibble_toNat, loNibble_toNat]
  omega

theorem append_toNat (h l : Nibble) : (h ++ l : Byte).toNat = h.toNat * 16 + l.toNat := by
  rw [BitVec.toNat_append, ← Nat.shiftLeft_add_eq_or_of_lt l.isLt, Nat.shiftLeft_eq]

/-- Two halves counted up as one byte. -/
theorem succ_halves_toNat (h l : Nibble) :
    (hiNibble (h ++ l + 1)).toNat * 16 + (loNibble (h ++ l + 1)).toNat = (h.toNat * 16 + l.toNat + 1) % 256 := by
  rw [halves_toNat, BitVec.toNat_add, append_toNat]
  rfl

/-- Settles O27, by the arithmetic of a byte and its halves. -/
theorem incrementAndLoadIndex : Obligations.IncrementAndLoadIndex := fun s e =>
  ⟨⟨⟨rfl, rfl⟩, _, rfl, rfl, succ_halves_toNat s.xh s.xl⟩, ⟨⟨rfl, rfl⟩, _, rfl, rfl, succ_halves_toNat s.yh s.yl⟩,
    ⟨⟨rfl, rfl⟩, _, rfl, rfl, hiNibble_toNat e, loNibble_toNat e⟩,
    ⟨rfl, rfl⟩, _, rfl, rfl, hiNibble_toNat e, loNibble_toNat e⟩

/-! ## The rotates (46_arithmetic.md R267, R268) -/

theorem rotateLeft4_bits : ∀ (v : Nibble) (c : Bool),
    (v.extractLsb' 0 3 ++ BitVec.ofBool c : Nibble) = BitVec.ofNat 4 (2 * v.toNat + c.toNat) := by decide

theorem rotateRight4_bits : ∀ (v : Nibble) (c : Bool),
    (BitVec.ofBool c ++ v.extractLsb' 1 3 : Nibble) = BitVec.ofNat 4 (v.toNat / 2 + 8 * c.toNat) := by decide

theorem State.rotateZ_of_keeps {s : State} (h : s.dev.rotateZ = .keeps) (v : Nibble) : s.rotateZ v = s := by
  simp [State.rotateZ, h]

theorem State.rotateZ_of_writes {s : State} (h : s.dev.rotateZ = .writes) (v : Nibble) :
    s.rotateZ v = s.setZ (decide (v = 0)) := by
  simp [State.rotateZ, h]

/-- Conflict C1 open: Z is one of the two, and one free value is drawn. -/
theorem State.rotateZ_of_either {s : State} (h : s.dev.rotateZ = .either) (v : Nibble) :
    ∃ z : Bool, (z = s.fz ∨ z = decide (v = 0)) ∧ s.rotateZ v = (s.setZ z).setDraws (s.draws + 1) := by
  refine ⟨if rotateWritesZ s.draws then decide (v = 0) else s.fz, ?_, by simp [State.rotateZ, h]⟩
  split
  · exact .inr rfl
  · exact .inl rfl

theorem exec_rlc {r : Sel} {s : State} (h : s.selPresent r = true) :
    exec (.rlc r) s = .next ((((s.touchSel r).setC ((s.sel r).getLsbD 3)).rotateZ
      (BitVec.ofNat 4 (2 * (s.sel r).toNat + s.fc.toNat))).putSel r
        (BitVec.ofNat 4 (2 * (s.sel r).toNat + s.fc.toNat))) := by
  rw [← rotateLeft4_bits, ← State.touchSel_fc s r]
  exact complete_eq_next.mpr (modifySel_eq_ok.mpr ⟨h, by simpa [rotateLeft4] using h, rfl⟩)

theorem exec_rrc {r : Sel} {s : State} (h : s.selPresent r = true) :
    exec (.rrc r) s = .next ((((s.touchSel r).setC ((s.sel r).getLsbD 0)).rotateZ
      (BitVec.ofNat 4 ((s.sel r).toNat / 2 + 8 * s.fc.toNat))).putSel r
        (BitVec.ofNat 4 ((s.sel r).toNat / 2 + 8 * s.fc.toNat))) := by
  rw [← rotateRight4_bits, ← State.touchSel_fc s r]
  exact complete_eq_next.mpr (modifySel_eq_ok.mpr ⟨h, by simpa [rotateRight4] using h, rfl⟩)

/-- Settles O46: the two rotates have one form, whose Z is the device's. -/
theorem rotates : Obligations.Rotates := by
  intro s r h
  refine ⟨⟨rfl, rfl⟩, ⟨rfl, rfl⟩, ?_⟩
  intro v left right p hp
  have hexec : exec p.1 s = .next ((((s.touchSel r).setC p.2.2).rotateZ p.2.1).putSel r p.2.1) := by
    simp only [List.mem_cons, List.not_mem_nil, or_false] at hp
    rcases hp with rfl | rfl
    · exact exec_rlc h
    · exact exec_rrc h
  have hdev : ((s.touchSel r).setC p.2.2).dev = s.dev := by simp
  rw [hexec]
  refine ⟨fun hz => ?_, fun hz => ?_, fun hz => ?_⟩
  · rw [State.rotateZ_of_keeps (hdev ▸ hz)]
    rfl
  · rw [State.rotateZ_of_writes (hdev ▸ hz)]
    rfl
  · obtain ⟨z, hz, hrotate⟩ := State.rotateZ_of_either (hdev ▸ hz) p.2.1
    refine ⟨z, by simpa using hz, ?_⟩
    rw [hrotate]
    rfl

end Sys2Proof.Machine
end

section
/-! PROOFS. Whole steps (10_state.md R47) and runs of a few: a fetched instruction that executes ends in its
bookkeeping, settled; what settling does follows from the one input presented there. -/

namespace Sys2Proof.Machine

open Sys2Proof.Config

/-! ## One step of a fetched instruction -/

/-- What is fetched depends on the run state, the counter and the device. -/
theorem Fetches.congr {s t : State} {i : Instr} (h : Fetches s i) (hrun : t.run = s.run) (hpc : t.pc = s.pc)
    (hdev : t.dev = s.dev) : Fetches t i := by
  unfold Fetches
  rw [hrun, hpc, hdev]
  exact h

theorem step_of_fetches {s : State} {i : Instr} (h : Fetches s i) : step s = runInstr i s := by
  obtain ⟨hrun, w, hw, hsubset, hdecode⟩ := h
  exact step_of_fetch hrun (fetch_of_word hw hsubset hdecode)

theorem step_of_exec {s t : State} {i : Instr} (h : Fetches s i) (hx : exec i s.advance = .next t) :
    step s = (endOfInstr i s.advance t).settle :=
  (step_of_fetches h).trans (runInstr_of_exec hx)

/-- The bookkeeping takes no input. -/
theorem endOfInstr_inputs (i : Instr) (s t : State) : (endOfInstr i s t).inputs = t.inputs := by
  rw [endOfInstr_eq]

theorem State.settle_of_no_input {s : State} (h : s.inputs = []) : s.settle = .next s :=
  State.settle_of_boundary (State.boundary_nil h)

theorem step_of_exec_no_input {s t : State} {i : Instr} (h : Fetches s i) (hx : exec i s.advance = .next t)
    (hi : t.inputs = []) : step s = .next (endOfInstr i s.advance t) :=
  (step_of_exec h hx).trans (State.settle_of_no_input ((endOfInstr_inputs ..).trans hi))

/-- A request turned away at the end of an instruction. -/
theorem step_of_exec_refused {s t : State} {i : Instr} {v : Nibble} {rest : List Input} (h : Fetches s i)
    (hx : exec i s.advance = .next t) (hi : t.inputs = .request v :: rest)
    (ha : (endOfInstr i s.advance t).accepts v = false) :
    step s = .next ((endOfInstr i s.advance t).setInputs rest) :=
  (step_of_exec h hx).trans
    (State.settle_of_boundary (State.boundary_request_refused ((endOfInstr_inputs ..).trans hi) ha))

/-- Settles O6: the fetch, then the execution's end or stop. -/
theorem stepRunsDecodedInstruction : Obligations.StepRunsDecodedInstruction := by
  intro s t i h
  refine ⟨fun hx => ?_, fun f hx hi => ?_⟩
  · have he := endOfInstr_eq i s.advance t
    exact ⟨he ▸ step_of_exec h hx, fun hi => he ▸ step_of_exec_no_input h hx hi⟩
  · rw [step_of_fetches h, runInstr_of_fault hx, State.stopped_of_no_reset hi]

/-! ## A request at a boundary -/

/-- The test of R304, for a vector that exists. -/
theorem State.accepts_iff {s : State} {v : Nibble} (hv : v ≠ 0) :
    s.accepts v = true ↔ s.fi = true ∧ s.eiDelay = false ∧ s.afterPset = false := by
  rw [State.accepts, decide_eq_true hv]
  simp [and_assoc]

/-- Settles O56, by the acceptance test of R304. -/
theorem interruptAcceptance : Obligations.InterruptAcceptance := by
  intro s v rest hv hi
  refine ⟨fun h => State.boundary_request_accepted hi ((State.accepts_iff hv).mpr h), fun h => ?_⟩
  exact State.boundary_request_refused hi (Bool.eq_false_iff.mpr ((State.accepts_iff hv).not.mpr h))

theorem raiseInterrupt_of_pushRoom {s : State} (h : s.pushRoom) (v : Nibble) : ∃ t, raiseInterrupt v s = .ok t := by
  obtain ⟨h1, h2, h3⟩ := h
  exact ⟨_, raiseInterrupt_eq_ok.mpr ⟨_, pushReturn_eq_ok.mpr ⟨h1, h2, h3, rfl⟩, rfl⟩⟩

theorem State.accepts_of_eiDelay {s : State} (h : s.eiDelay = true) (v : Nibble) : s.accepts v = false := by
  simp [State.accepts, h]

/-- The first boundary of R44: the instruction that raised I is not PSET, and its own delay turns the request away. -/
theorem step_of_exec_raising_fi {s t : State} {i : Instr} {v : Nibble} {rest : List Input} (h : Fetches s i)
    (hx : exec i s.advance = .next t) (hs : s.fi = false) (ht : t.fi = true) (hi : s.inputs = .request v :: rest) :
    step s = .next
      { t with
          nbp := t.pcb, npp := t.pcp, afterPset := false, eiDelay := true, clocks := t.clocks + clocksOf i
          inputs := rest } := by
  obtain ⟨hfi, -, -, -⟩ := (exec_listedWrites hx).flags
  obtain ⟨-, -, -, -, -, -, -, hinputs, -⟩ := (exec_listedWrites hx).control
  have hp : isPset i = false := by
    rw [← Bool.not_eq_true]
    intro hp
    have : t.fi = s.fi := hfi (writesI_of_isPset hp)
    simp [hs, ht] at this
  have he : (endOfInstr i s.advance t).eiDelay = true := by
    rw [endOfInstr_eiDelay, State.advance_fi, hs, ht]
    rfl
  rw [step_of_exec_refused h hx (hinputs.trans hi) (State.accepts_of_eiDelay he v), endOfInstr_eq, hp,
    State.advance_fi, hs, ht]
  rfl

/-- The second: one instruction later nothing turns the request away. -/
theorem step_of_exec_keeping_fi {s t : State} {i : Instr} {v : Nibble} {rest : List Input} (h : Fetches s i)
    (hx : exec i s.advance = .next t) (hs : s.fi = true) (hp : isPset i = false) (ht : t.fi = true) (hv : v ≠ 0)
    (hi : s.inputs = .request v :: rest) :
    ∃ e : State, step s = e.settle ∧ e.inputs = .request v :: rest ∧ e.boundary = raiseInterrupt v
      { t with
          nbp := t.pcb, npp := t.pcp, afterPset := false, eiDelay := false, clocks := t.clocks + clocksOf i
          inputs := rest } := by
  obtain ⟨-, -, -, -, -, -, -, hinputs, -⟩ := (exec_listedWrites hx).control
  have hi' : t.inputs = .request v :: rest := hinputs.trans hi
  refine ⟨endOfInstr i s.advance t, step_of_exec h hx, (endOfInstr_inputs ..).trans hi', ?_⟩
  rw [endOfInstr_eq, hp, State.advance_fi, hs]
  exact State.boundary_request_accepted hi' ((State.accepts_iff hv).mpr ⟨ht, rfl, rfl⟩)

/-- Settles O22: the two boundaries, and what each outcome of the entry makes of the step. -/
theorem interruptEnableDelay : Obligations.InterruptEnableDelay := by
  refine ⟨fun s t i v rest h hx hs ht hi => step_of_exec_raising_fi h hx hs ht hi, ?_⟩
  intro s t i v rest h hx hs _ hp ht hv hi e
  obtain ⟨e', hstep, hinputs, hentry⟩ := step_of_exec_keeping_fi h hx hs hp ht hv hi
  have hnext (u : State) (hu : raiseInterrupt v e = .ok u) : step s = .next u :=
    hstep.trans (State.settle_of_boundary (hentry.trans hu))
  refine ⟨fun hroom => ?_, hnext, fun f hf hrest => ?_⟩
  · obtain ⟨u, hu⟩ := raiseInterrupt_of_pushRoom (s := e) hroom v
    exact ⟨u, hu, hnext u hu⟩
  · rw [hstep, State.settle, hentry.trans hf]
    refine State.stopped_of_no_reset ?_ f
    rw [hinputs]
    simpa using hrest

/-! ## PSET and the jump after it -/

theorem run_one {s t : State} (h : step s = .next t) : Host.Core.run Sys2Proof.core 1 s = .next t := by
  simp [Host.Core.run, Sys2Proof.core, h]

theorem run_succ_of_step {s t : State} (h : step s = .next t) (k : Nat) :
    Host.Core.run Sys2Proof.core (k + 1) s = Host.Core.run Sys2Proof.core k t := by
  simp [Host.Core.run, Sys2Proof.core, h]

/-- A jump ends where NBP:NPP and its operand say. -/
theorem step_of_jp {s : State} {d : Byte} (h : Fetches s (.jp d)) (hi : s.inputs = []) :
    ∃ u, step s = .next u ∧ u.pc = s.nbp ++ s.npp ++ d ∧ u.sp = s.sp ∧ u.ram = s.ram ∧ u.fi = s.fi ∧ u.inputs = [] := by
  refine ⟨_, step_of_exec_no_input h rfl hi, ?_⟩
  rw [endOfInstr_eq]
  exact ⟨rfl, rfl, rfl, rfl, hi⟩

theorem operand_halves : ∀ p : BitVec 5, (p.extractLsb' 4 1 ++ p.extractLsb' 0 4 : BitVec 5) = p := by decide

/-- The end of a fetched PSET. -/
def State.endOfPset (s : State) (p : BitVec 5) : State :=
  endOfInstr (.pset p) s.advance (s.advance.setNext (p.extractLsb' 4 1) (p.extractLsb' 0 4))

/-- A PSET turns the request at its boundary away; the jump then reads the page PSET left. -/
theorem run_pset_jp {s : State} {p : BitVec 5} {d : Byte} {v : Nibble} (hpset : Fetches s (.pset p))
    (hjp : Fetches s.advance (.jp d)) (hi : s.inputs = [.request v]) :
    ∃ u, Host.Core.run Sys2Proof.core 2 s = .next u ∧ u.pc = p ++ d ∧ u.sp = s.sp ∧ u.ram = s.ram ∧ u.fi = s.fi ∧
      u.inputs = [] := by
  have hstep : step s = .next ((s.endOfPset p).setInputs []) :=
    step_of_exec_refused hpset rfl hi (State.accepts_of_afterPset rfl v)
  obtain ⟨u, hu, hpc, hrest⟩ := step_of_jp (s := (s.endOfPset p).setInputs []) (hjp.congr rfl rfl rfl) rfl
  refine ⟨u, (run_succ_of_step hstep 1).trans (run_one hu), hpc.trans ?_, hrest⟩
  exact congrArg (· ++ d) (operand_halves p)

/-- The instruction between ends with NBP:NPP reloaded, so the PSET before it is lost. -/
theorem run_pset_nop5_jp {s : State} {p : BitVec 5} {d : Byte} (hpset : Fetches s (.pset p))
    (hnop : Fetches s.advance .nop5) (hjp : Fetches s.advance.advance (.jp d)) (hi : s.inputs = []) :
    ∃ u, Host.Core.run Sys2Proof.core 3 s = .next u ∧ u.pc = s.pcb ++ s.advance.advance.pcp ++ d := by
  let s1 := s.endOfPset p
  let s2 := endOfInstr .nop5 s1.advance s1.advance
  have hstep1 : step s = .next s1 := step_of_exec_no_input hpset rfl hi
  have hstep2 : step s1 = .next s2 := step_of_exec_no_input (hnop.congr rfl rfl rfl) rfl hi
  obtain ⟨u, hu, hpc, -⟩ := step_of_jp (s := s2) (hjp.congr rfl rfl rfl) hi
  exact ⟨u, (run_succ_of_step hstep1 2).trans ((run_succ_of_step hstep2 1).trans (run_one hu)), hpc⟩

/-- Settles O14; in the second clause the invariant gives NBP:NPP equal to PCB:PCP. -/
theorem psetServesOnlyTheNextJump : Obligations.PsetServesOnlyTheNextJump := by
  refine ⟨fun s p d v => run_pset_jp, fun s d hs hp h hi => ?_, fun s p d => run_pset_nop5_jp⟩
  obtain ⟨-, hc⟩ := State.inv_iff.mp hs
  obtain ⟨hnbp, hnpp⟩ := hc.page.resolve_left (by simp [hp])
  obtain ⟨u, hu, hpc, -⟩ := step_of_jp h hi
  exact ⟨u, hu, by rw [hpc, hnbp, hnpp]⟩

end Sys2Proof.Machine
end

section
/-! PROOFS. Instructions of the device's own (`UNASSIGNED_OPCODE`; 30_encoding.md R101, R102; log 20): the step of such
a word, and each kind of micro step by the place it names. -/

namespace Sys2Proof.Machine

open Sys2Proof.Config

/-! ## The step -/

/-- A word without a meaning, or outside the subset, follows its treatment. -/
theorem operationOf_of_treatment {d : Device} {w : Word} {t : Treatment}
    (hw : excludedWord d.excluded w = true ∨ (decode w).toOption = none) (ht : treatmentOf d.unassigned w = some t) :
    operationOf d w = .ok t := by
  cases hx : excludedWord d.excluded w with
  | true => simp [operationOf, hx, ht]
  | false =>
    cases hd : decode w with
    | ok i => simp [hx, hd, Except.toOption] at hw
    | error e => simp [operationOf, hx, hd, ht]

theorem step_of_treatment {s : State} {w : Word} {t : Treatment} (hr : s.run = .run)
    (hl : Cells.lookup s.dev.rom s.pc.toNat = some w)
    (hw : excludedWord s.dev.excluded w = true ∨ (decode w).toOption = none)
    (ht : treatmentOf s.dev.unassigned w = some t) : step s = runWord t s := by
  simp [step, cycle, hr, fetch, hl, operationOf_of_treatment hw ht]

theorem runWord_of_next {w : Treatment} {s t : State} (h : executeWord w s.advance = .next t) :
    runWord w s = (finishWord w s.advance t).settle := by
  simp [runWord, h]

theorem runWord_of_fault {w : Treatment} {s : State} {f : Fault} (h : executeWord w s.advance = .fault f) :
    runWord w s = s.stopped f := by
  simp [runWord, h]

/-! ## The micro steps -/

theorem runSteps_acts_of_next {i : Instr} {s t : State} (h : exec i s = .next t) (l : List Micro) (temp : Nibble) :
    runSteps (.acts i :: l) 0 temp s = runSteps l 0 temp t := by
  simp [runSteps, h]

theorem runSteps_acts_of_fault {i : Instr} {s : State} {f : Fault} (h : exec i s = .fault f) (l : List Micro)
    (temp : Nibble) : runSteps (.acts i :: l) 0 temp s = .fault f := by
  simp [runSteps, h]

theorem runSteps_acts_alone (i : Instr) (temp : Nibble) (s : State) : runSteps [.acts i] 0 temp s = exec i s := by
  unfold runSteps
  split <;> simp_all [runSteps]

/-- A skip is the same run with the steps left out, or with none left out. -/
theorem runSteps_skip (g : Place) (mask value : Nibble) (n : Nat) (l : List Micro) (temp : Nibble) (s : State) :
    runSteps (.skip g mask value n :: l) 0 temp s =
      runSteps (if s.place temp g &&& mask = value then l.drop n else l) 0 temp s := by
  rw [runSteps]
  split
  · exact runSteps_drop l n temp s
  · rfl

/-! ## The places -/

/-- The 17 places. -/
def allPlaces : List Place :=
  [.a, .b, .xp, .xh, .xl, .yp, .yh, .yl, .rp, .sph, .spl, .f, .pcb, .pcp, .pcsh, .pcsl, .temp]

theorem mem_allPlaces (g : Place) : g ∈ allPlaces := by
  cases g <;> decide

/-- A place, what it holds, and what writing it leaves of the latch and the state. -/
def placeRow (s : State) (temp : Nibble) (g : Place) : Place × Nibble × (Nibble → Nibble × State) :=
  (g, s.place temp g, fun v => (tempAfter temp v g, s.setPlace v g))

/-- Settles O60. The table of the statement is the rows of all places, so each clause is about one place. -/
theorem unassignedOwnInstructions : Obligations.UnassignedOwnInstructions := by
  constructor
  · intro s w l clk hr hl hw ht
    have hstep := step_of_treatment hr hl hw ht
    refine ⟨fun t h => ?_, fun f h hi => ?_⟩
    · intro e
      have he : finishWord (.own l clk) s.advance t = e := endOf_eq false clk s.advance t
      have hsettle : step s = e.settle := by rw [hstep, runWord_of_next (w := .own l clk) h, he]
      exact ⟨hsettle, fun hi => hsettle.trans (State.settle_of_no_input hi)⟩
    · rw [hstep, runWord_of_fault (w := .own l clk) h, State.stopped_of_no_reset hi]
  · intro s temp l places
    have hplaces : places = allPlaces.map (placeRow s temp) := rfl
    rw [hplaces]
    refine ⟨rfl, fun i => ⟨runSteps_acts_alone i temp s, fun t h => runSteps_acts_of_next h l temp,
      fun f h => runSteps_acts_of_fault h l temp⟩, fun g => ⟨_, List.mem_map_of_mem (mem_allPlaces g), rfl⟩, ?_⟩
    intro p hp
    obtain ⟨g, -, rfl⟩ := List.mem_map.mp hp
    refine ⟨fun v => rfl, fun q hq => ?_, rfl, fun mask value n => runSteps_skip g mask value n l temp s⟩
    obtain ⟨h, -, rfl⟩ := List.mem_map.mp hq
    rfl

end Sys2Proof.Machine
end

section
/-! PROOFS. The accesses of an instruction to data memory (20_memory.md R71). One relation says of a sequence of
operations that it makes the accesses `l`: it answers where all of them answer, and then the RAM words not stored to and
the I/O trace are what `l` says; otherwise it stops at an absent address of `l`. It is carried through each shared
operation once, then through each instruction by its shape; the frame of data memory, the order of the accesses and the
completion of every instruction are read off it. -/

namespace Sys2Proof.Machine

open Sys2Proof.Config

/-! ## What accesses leave -/

/-- What a change inside the core leaves alone: the device, data memory, the record of I/O accesses. -/
def State.memView (s : State) : Device × Memory × Nat × List IoAccess := (s.dev, s.ram, s.ramEpoch, s.ioTrace)

/-- `t` is what the accesses `l` make of `s`, as far as RAM words and the I/O trace show them. -/
structure Accessed (l : List Access) (s t : State) : Prop where
  dev : t.dev = s.dev
  ramWord : ∀ a : Addr, writeOf a ∉ l → t.ramWord a = s.ramWord a
  trace : ∃ k : List IoAccess, t.ioTrace = k ++ s.ioTrace ∧
    k.reverse.map accessOf = l.filter fun c => decide (s.kindAt c.addr = .io)

theorem Accessed.of_memView {s t : State} (h : t.memView = s.memView) : Accessed [] s t := by
  simp only [State.memView, Prod.mk.injEq] at h
  obtain ⟨hdev, hram, hepoch, htrace⟩ := h
  exact ⟨hdev, fun a _ => by simp [State.ramWord, hram, hepoch], [], htrace, rfl⟩

theorem Accessed.trans {l1 l2 : List Access} {s t u : State} (h1 : Accessed l1 s t) (h2 : Accessed l2 t u) :
    Accessed (l1 ++ l2) s u := by
  obtain ⟨k1, htrace1, hk1⟩ := h1.trace
  obtain ⟨k2, htrace2, hk2⟩ := h2.trace
  refine ⟨h2.dev.trans h1.dev, fun a ha => ?_, k2 ++ k1, ?_, ?_⟩
  · rw [List.mem_append, not_or] at ha
    exact (h2.ramWord a ha.2).trans (h1.ramWord a ha.1)
  · rw [htrace2, htrace1, List.append_assoc]
  · simp only [State.kindAt_of_dev h1.dev] at hk2
    rw [List.reverse_append, List.map_append, List.filter_append, hk1, hk2]

theorem accessed_touch (s : State) (a : Addr) : Accessed [readOf a] s (s.touch a) := by
  refine ⟨State.touch_dev .., fun c _ => State.touch_ramWord .., ?_⟩
  unfold State.touch
  cases hk : s.kindAt a with
  | io => exact ⟨[.read a], rfl, by simp [accessOf, readOf, hk]⟩
  | ram | absent => exact ⟨[], rfl, by simp [readOf, hk]⟩

theorem accessed_store (s : State) (a : Addr) (v : Nibble) : Accessed [writeOf a] s (s.store a v) := by
  refine ⟨State.store_dev .., fun c hc => State.store_ramWord_other s ?_ v, ?_⟩
  · rintro rfl
    exact hc (List.mem_singleton.mpr rfl)
  · unfold State.store
    cases hk : s.kindAt a with
    | io => exact ⟨[.write a v], rfl, by simp [accessOf, writeOf, hk]⟩
    | ram | absent => exact ⟨[], rfl, by simp [writeOf, hk]⟩

/-! ## Sequences of operations -/

/-- `m`, from `s`, makes the accesses `l`; `out` reads the state off an answer. -/
def Makes {α : Type} (l : List Access) (s : State) (out : α → State) (m : Except Fault α) : Prop :=
  match m with
  | .ok x => (∀ c ∈ l, s.present c.addr = true) ∧ Accessed l s (out x)
  | .error f => ∃ c ∈ l, s.present c.addr = false ∧ f = .absentDataAddress c.addr

namespace Makes

variable {α β : Type} {l l1 l2 : List Access} {s s' : State} {out : α → State} {out' : β → State} {m : Except Fault α}
  {k : α → Except Fault β}

/-- No access: a change inside the core. -/
theorem ok {u : State} (h : u.memView = s.memView) : Makes [] s id (.ok u) := ⟨nofun, .of_memView h⟩

/-- One part after another: the second is asked for where the first answers. -/
theorem bind (hm : Makes l1 s out m) (hk : ∀ x, m = .ok x → Makes l2 (out x) out' (k x)) :
    Makes (l1 ++ l2) s out' (m >>= k) := by
  cases m with
  | error f =>
    obtain ⟨c, hc, hf⟩ := hm
    exact ⟨c, List.mem_append_left _ hc, hf⟩
  | ok x =>
    obtain ⟨hpresent, hx⟩ := hm
    have hkx := hk x rfl
    rw [ok_bind]
    cases hy : k x with
    | ok y =>
      rw [hy] at hkx
      refine ⟨fun c hc => ?_, hx.trans hkx.2⟩
      rcases List.mem_append.mp hc with hc | hc
      · exact hpresent c hc
      · exact (State.present_of_dev hx.dev _).symm.trans (hkx.1 c hc)
    | error f =>
      rw [hy] at hkx
      obtain ⟨c, hc, habsent, hf⟩ := hkx
      exact ⟨c, List.mem_append_right _ hc, (State.present_of_dev hx.dev _).symm.trans habsent, hf⟩

/-- A change inside the core at the end. -/
theorem bind_ok (hm : Makes l s out m) (hk : ∀ x, ∃ y, k x = .ok y ∧ (out' y).memView = (out x).memView) :
    Makes l s out' (m >>= k) := by
  rw [← l.append_nil]
  refine hm.bind fun x _ => ?_
  obtain ⟨y, hy, hview⟩ := hk x
  rw [hy]
  exact ⟨nofun, .of_memView hview⟩

/-- A change inside the core at the start. -/
theorem of_memView (hm : Makes l s' out m) (h : s'.memView = s.memView) : Makes l s out m :=
  (ok h).bind (k := fun _ => m) fun _ hx => by cases hx; exact hm

end Makes

theorem makes_memRead (a : Addr) (s : State) : Makes [readOf a] s Prod.snd (memRead a s) := by
  unfold memRead
  split
  · exact ⟨by simpa [readOf], accessed_touch s a⟩
  · exact ⟨readOf a, by simp, Bool.eq_false_iff.mpr ‹_›, rfl⟩

theorem makes_memWrite (a : Addr) (v : Nibble) (s : State) : Makes [writeOf a] s id (memWrite a v s) := by
  unfold memWrite
  split
  · exact ⟨by simpa [writeOf], accessed_store s a v⟩
  · exact ⟨writeOf a, by simp, Bool.eq_false_iff.mpr ‹_›, rfl⟩

theorem makes_readSel (r : Sel) (s : State) : Makes (s.readsSel r) s Prod.snd (readSel r s) := by
  cases r with
  | a | b => exact ⟨nofun, .of_memView rfl⟩
  | mx | my => exact makes_memRead _ s

theorem makes_writeSel (r : Sel) (v : Nibble) (s : State) : Makes (s.writesSel r) s id (writeSel r v s) := by
  cases r with
  | a | b => exact .ok rfl
  | mx | my => exact makes_memWrite _ v s

/-! ## The shared operations

An operand's address is that of the state the operation starts in: nothing before the last access of an instruction
changes IX or IY. -/

/-- What a change inside the core also leaves alone where an operand is still to be written: IX and IY. -/
def State.operandView (s : State) : (Device × Memory × Nat × List IoAccess) × Addr × Addr := (s.memView, s.ix, s.iy)

theorem State.selAddr_congr {s t : State} (hx : t.ix = s.ix) (hy : t.iy = s.iy) (r : Sel) :
    t.selAddr r = s.selAddr r := by
  cases r <;> simp [State.selAddr, hx, hy]

/-- A read of `r` from a state `t` whose IX and IY are those of `s`. -/
theorem makes_readSel_of_index_eq {s t : State} (hx : t.ix = s.ix) (hy : t.iy = s.iy) (r : Sel) :
    Makes (s.readsSel r) t Prod.snd (readSel r t) := by
  rw [State.readsSel, ← State.selAddr_congr hx hy]
  exact makes_readSel r t

/-- A write of `r` from a state `t` that an operation inside the core made of `u`, whose IX and IY are those of `s`. -/
theorem makes_writeSel_of_index_eq {s t u : State} (hx : u.ix = s.ix) (hy : u.iy = s.iy)
    (ht : t.operandView = u.operandView) (r : Sel) (v : Nibble) : Makes (s.writesSel r) u id (writeSel r v t) := by
  simp only [State.operandView, Prod.mk.injEq] at ht
  obtain ⟨hmem, htx, hty⟩ := ht
  rw [State.writesSel, ← State.selAddr_congr (htx.trans hx) (hty.trans hy)]
  exact (makes_writeSel r v t).of_memView hmem

theorem makes_push (v : Nibble) (s : State) : Makes [writeOf (stackAddr (s.sp - 1))] s id (push v s) :=
  (makes_memWrite _ v (s.setSP (s.sp - 1))).of_memView rfl

theorem makes_pop (s : State) : Makes [readOf (stackAddr s.sp)] s Prod.snd (pop s) :=
  (makes_memRead _ s).bind_ok fun _ => ⟨_, rfl, rfl⟩

theorem makes_pushReturn (s : State) :
    Makes [writeOf (stackAddr (s.sp - 1)), writeOf (stackAddr (s.sp - 2)), writeOf (stackAddr (s.sp - 3))] s id
      (pushReturn s) :=
  (makes_memWrite _ _ s).bind fun s1 _ => (makes_memWrite _ _ s1).bind fun s2 _ =>
    (makes_memWrite _ _ s2).bind_ok fun _ => ⟨_, rfl, rfl⟩

theorem makes_popReturn (s : State) :
    Makes [readOf (stackAddr s.sp), readOf (stackAddr (s.sp + 1)), readOf (stackAddr (s.sp + 2))] s id (popReturn s) :=
  (makes_memRead _ s).bind fun p _ => (makes_memRead _ p.2).bind fun p _ =>
    (makes_memRead _ p.2).bind_ok fun _ => ⟨_, rfl, rfl⟩

theorem makes_storePairX {s : State} {a c : Addr} (ha : s.ix = a) (hc : s.ixNext = c) (e : Byte) :
    Makes [writeOf a, writeOf c] s id (storePairX e s) := by
  subst ha hc
  exact (makes_memWrite _ _ s).bind fun s1 _ => (makes_memWrite _ _ s1).bind_ok fun _ => ⟨_, rfl, rfl⟩

theorem makes_moveSel (r q : Sel) (s : State) : Makes (s.readsSel q ++ s.writesSel r) s id (moveSel r q s) :=
  (makes_readSel q s).bind fun _ hp => by
    obtain ⟨-, rfl⟩ := readSel_eq_ok.mp hp
    exact makes_writeSel_of_index_eq (by simp) (by simp) rfl r _

section Shapes

variable {op : Nibble → State → Nibble × State} {op2 : Nibble → Nibble → State → Nibble × State}

theorem makes_modifySel (r : Sel) (s : State) (hop : ∀ v u, (op v u).2.operandView = u.operandView) :
    Makes (s.readsSel r ++ s.writesSel r) s id (modifySel r op s) :=
  (makes_readSel r s).bind fun _ hp => by
    obtain ⟨-, rfl⟩ := readSel_eq_ok.mp hp
    exact makes_writeSel_of_index_eq (by simp) (by simp) (hop _ _) r _

theorem makes_combineSel (r q : Sel) (s : State) (hop : ∀ v w u, (op2 v w u).2.operandView = u.operandView) :
    Makes (s.readsSel r ++ s.readsSel q ++ s.writesSel r) s id (combineSel r q op2 s) := by
  rw [List.append_assoc]
  refine (makes_readSel r s).bind fun _ hp => ?_
  obtain ⟨-, rfl⟩ := readSel_eq_ok.mp hp
  refine (makes_readSel_of_index_eq (by simp) (by simp) q).bind fun _ hp => ?_
  obtain ⟨-, rfl⟩ := readSel_eq_ok.mp hp
  exact makes_writeSel_of_index_eq (by simp) (by simp) (hop _ _ _) r _

theorem makes_testSel (r : Sel) (s : State) (hop : ∀ v u, (op v u).2.operandView = u.operandView) :
    Makes (s.readsSel r) s id (testSel r op s) :=
  (makes_readSel r s).bind_ok fun p => ⟨_, rfl, congrArg Prod.fst (hop p.1 p.2)⟩

theorem makes_testSel2 (r q : Sel) (s : State) (hop : ∀ v w u, (op2 v w u).2.operandView = u.operandView) :
    Makes (s.readsSel r ++ s.readsSel q) s id (testSel2 r q op2 s) := by
  refine (makes_readSel r s).bind fun _ hp => ?_
  obtain ⟨-, rfl⟩ := readSel_eq_ok.mp hp
  exact (makes_readSel_of_index_eq (by simp) (by simp) q).bind_ok fun p => ⟨_, rfl, congrArg Prod.fst (hop _ p.1 p.2)⟩

theorem makes_combineMem (a : Addr) (r : Sel) (s : State)
    (hop : ∀ v w u, (op2 v w u).2.operandView = u.operandView) :
    Makes (readOf a :: s.readsSel r ++ [writeOf a]) s id (combineMem a r op2 s) := by
  refine (makes_memRead a s).bind (l2 := s.readsSel r ++ [writeOf a]) fun _ hp => ?_
  obtain ⟨-, rfl⟩ := memRead_eq_ok.mp hp
  exact (makes_readSel_of_index_eq (by simp) (by simp) r).bind fun p _ =>
    (makes_memWrite a _ _).of_memView (congrArg Prod.fst (hop _ p.1 p.2))

theorem makes_modifyMn (n : Nibble) (s : State) (hop : ∀ v u, (op v u).2.operandView = u.operandView) :
    Makes [readOf (regAddr n), writeOf (regAddr n)] s id (modifyMn n op s) :=
  ((makes_memRead (regAddr n) (s.setRP n)).bind fun p _ =>
    (makes_memWrite (regAddr n) _ _).of_memView (congrArg Prod.fst (hop p.1 p.2))).of_memView rfl

end Shapes

@[simp] theorem add4_operandView (x y : Nibble) (cin dec : Bool) (s : State) :
    (add4 x y cin dec s).2.operandView = s.operandView := by
  simp [add4, State.operandView, State.memView]

@[simp] theorem sub4_operandView (x y : Nibble) (bin dec : Bool) (s : State) :
    (sub4 x y bin dec s).2.operandView = s.operandView := by
  simp [sub4, State.operandView, State.memView]

@[simp] theorem logic4_operandView (v : Nibble) (s : State) : (logic4 v s).2.operandView = s.operandView := by
  simp [logic4, State.operandView, State.memView]

theorem rotateLeft4_operandView (v : Nibble) (s : State) : (rotateLeft4 v s).2.operandView = s.operandView := by
  simp [rotateLeft4, State.operandView, State.memView]

theorem rotateRight4_operandView (v : Nibble) (s : State) : (rotateRight4 v s).2.operandView = s.operandView := by
  simp [rotateRight4, State.operandView, State.memView]

theorem setF_memView (s : State) (v : Nibble) : (s.setF v).memView = s.memView := by simp [State.memView]

theorem ite_memView {s t u : State} {b : Bool} (ht : t.memView = s.memView) (hu : u.memView = s.memView) :
    (if b then t else u).memView = s.memView := by
  cases b with
  | false => exact hu
  | true => exact ht

/-! ## Every instruction -/

/-- An instruction's outcome from `s` makes the accesses `l`. -/
def Performs (l : List Access) (s : State) (o : Host.Outcome State Fault Refusal) : Prop :=
  ∃ m, o = complete m ∧ Makes l s id m

theorem Performs.of_makes {l : List Access} {s : State} {m : Except Fault State} (h : Makes l s id m) :
    Performs l s (complete m) := ⟨m, rfl, h⟩

/-- An instruction that stays inside the core. -/
theorem Performs.next {s u : State} (h : u.memView = s.memView) : Performs [] s (.next u) := ⟨.ok u, rfl, .ok h⟩

/-- Every instruction makes the accesses of its row of R71, by its shape. -/
theorem exec_performs (i : Instr) (s : State) : Performs (accessesOf i s) s (exec i s) := by
  cases i with
  | pset | jp | jpba | nop5 | nop7 | halt | slp | scf | rcf | szf | rzf | sdf | rdf | ei | di
  | incSP | decSP | incX | incY | ldXE | ldYE => exact .next rfl
  | setF | rstF | adcXHI | adcXLI | adcYHI | adcYLI => exact .next (by simp [State.memView])
  | cpXHI | cpXLI | cpYHI | cpYLI => exact .next (congrArg Prod.fst (sub4_operandView ..))
  | jpC | jpNC | jpZ | jpNZ => exact .next (ite_memView rfl rfl)
  | call | calz => exact .of_makes ((makes_pushReturn s).bind_ok fun _ => ⟨_, rfl, rfl⟩)
  | ret => exact .of_makes (makes_popReturn s)
  | rets => exact .of_makes ((makes_popReturn s).bind_ok fun _ => ⟨_, rfl, rfl⟩)
  | retd e =>
    refine .of_makes ((makes_popReturn s).bind fun u hu => ?_)
    obtain ⟨-, -, -, rfl⟩ := popReturn_eq_ok.mp hu
    exact makes_storePairX (by simp) (by simp) e
  | lbpx e => exact .of_makes (makes_storePairX rfl rfl e)
  | pushR r =>
    refine .of_makes ((makes_readSel r s).bind fun p hp => ?_)
    obtain ⟨-, rfl⟩ := readSel_eq_ok.mp hp
    simpa using makes_push (s.sel r) (s.touchSel r)
  | pushXP | pushXH | pushXL | pushYP | pushYH | pushYL | pushF => exact .of_makes (makes_push _ s)
  | popR r =>
    refine .of_makes ((makes_pop s).bind fun p hp => ?_)
    obtain ⟨-, rfl⟩ := pop_eq_ok.mp hp
    exact makes_writeSel_of_index_eq (by simp) (by simp) rfl r _
  | popXP | popXH | popXL | popYP | popYH | popYL =>
    exact .of_makes ((makes_pop s).bind_ok fun _ => ⟨_, rfl, rfl⟩)
  | popF => exact .of_makes ((makes_pop s).bind_ok fun p => ⟨_, rfl, setF_memView p.2 p.1⟩)
  | ldXPR r | ldXHR r | ldXLR r | ldYPR r | ldYHR r | ldYLR r | ldSPHR r | ldSPLR r =>
    exact .of_makes ((makes_readSel r s).bind_ok fun _ => ⟨_, rfl, rfl⟩)
  | ldRXP r | ldRXH r | ldRXL r | ldRYP r | ldRYH r | ldRYL r | ldRSPH r | ldRSPL r | ldRI r =>
    exact .of_makes (makes_writeSel r _ s)
  | ldRQ r q => exact .of_makes (makes_moveSel r q s)
  | ldpxRQ r q | ldpyRQ r q => exact .of_makes ((makes_moveSel r q s).bind_ok fun _ => ⟨_, rfl, rfl⟩)
  | ldpxMXI | ldpyMYI => exact .of_makes ((makes_memWrite _ _ s).bind_ok fun _ => ⟨_, rfl, rfl⟩)
  | ldAMn n | ldBMn n =>
    exact .of_makes (.of_memView (s := s) ((makes_memRead _ (s.setRP n)).bind_ok fun _ => ⟨_, rfl, rfl⟩) rfl)
  | ldMnA n | ldMnB n => exact .of_makes ((makes_memWrite _ _ (s.setRP n)).of_memView rfl)
  | addRI r | adcRI r | sbcRI r | andRI r | orRI r | xorRI r | notR r =>
    exact .of_makes (makes_modifySel r s fun _ _ => by simp)
  | rlc r => exact .of_makes (makes_modifySel r s rotateLeft4_operandView)
  | rrc r => exact .of_makes (makes_modifySel r s rotateRight4_operandView)
  | addRQ r q | adcRQ r q | subRQ r q | sbcRQ r q | andRQ r q | orRQ r q | xorRQ r q =>
    exact .of_makes (makes_combineSel r q s fun _ _ _ => by simp)
  | cpRI r | fanRI r => exact .of_makes (makes_testSel r s fun _ _ => by simp)
  | cpRQ r q | fanRQ r q => exact .of_makes (makes_testSel2 r q s fun _ _ _ => by simp)
  | incMn n | decMn n => exact .of_makes (makes_modifyMn n s fun _ _ => by simp)
  | acpx r | acpy r | scpx r | scpy r =>
    exact .of_makes ((makes_combineMem _ r s fun _ _ _ => by simp).bind_ok fun _ => ⟨_, rfl, rfl⟩)

/-- What an instruction that completes leaves, by its accesses. -/
theorem exec_accessed {i : Instr} {s t : State} (h : exec i s = .next t) : Accessed (accessesOf i s) s t := by
  obtain ⟨m, hm, hmakes⟩ := exec_performs i s
  obtain rfl := complete_eq_next.mp (hm.symm.trans h)
  exact hmakes.2

/-! ## The obligations -/

theorem mem_storesTo_of_mem_accessesOf {i : Instr} {s : State} {a : Addr} (h : writeOf a ∈ accessesOf i s) :
    a ∈ storesTo i s :=
  List.mem_map_of_mem (f := Access.addr) (List.mem_filter.mpr ⟨h, rfl⟩)

/-- Away from the peripheral registers a read gives the RAM word. -/
theorem State.word_of_not_io {s : State} {a : Addr} (h : s.kindAt a ≠ .io) : s.word a = s.ramWord a := by
  unfold State.word
  split
  · exact absurd ‹_› h
  · rfl
  · rfl

/-- Settles O51: only the stores among an instruction's accesses change a word. -/
theorem memoryFrame : Obligations.MemoryFrame := by
  intro i s t h a ha
  have hx := exec_accessed h
  have hword := hx.ramWord a fun hmem => ha (mem_storesTo_of_mem_accessesOf hmem)
  refine ⟨hword, fun hk => ?_⟩
  have hkt : t.kindAt a ≠ .io := State.kindAt_of_dev hx.dev a ▸ hk
  rw [State.word_of_not_io hk, State.word_of_not_io hkt, hword]

/-- Settles O53: the trace follows an instruction's accesses. -/
theorem accessesInOrder : Obligations.AccessesInOrder := fun _ _ _ h => (exec_accessed h).trace

/-- Settles O54: an instruction that answers found every address it accesses present, one that stops names one that is
absent. -/
theorem completesUnlessAbsent : Obligations.CompletesUnlessAbsent := by
  intro i s
  obtain ⟨m, hm, hmakes⟩ := exec_performs i s
  cases m with
  | ok t =>
    obtain ⟨hpresent, -⟩ := hmakes
    refine ⟨fun _ => ⟨t, hm⟩, fun ⟨c, hc, habsent⟩ => ?_⟩
    simp [hpresent c hc] at habsent
  | error f =>
    obtain ⟨c, hc, habsent, rfl⟩ := hmakes
    refine ⟨fun hpresent => ?_, fun _ => ⟨c, hc, habsent, hm⟩⟩
    simp [hpresent c hc] at habsent

end Sys2Proof.Machine
end

section
/-! PROOFS. The stack and the pair store over RAM (20_memory.md R61, R65, R67): a word stored there is the word read
back, so a POP loads what the PUSH before it stored, and the byte of LBPX can be read back from its two nibbles. -/

namespace Sys2Proof.Machine

open Sys2Proof.Config

/-! ## A word of RAM -/

theorem State.present_of_ram {s : State} {a : Addr} (h : s.kindAt a = .ram) : s.present a = true := by
  simp [State.present, h]

theorem State.touch_of_ram {s : State} {a : Addr} (h : s.kindAt a = .ram) : s.touch a = s := by
  simp [State.touch, h]

/-- A store to RAM changes data memory only. -/
theorem State.store_of_ram {s : State} {a : Addr} (h : s.kindAt a = .ram) (v : Nibble) :
    s.store a v = s.setRam (s.store a v).ram := by
  simp [State.store, h]

/-- A word stored in RAM is the word read. -/
theorem State.word_store_of_ram {s : State} {a : Addr} (h : s.kindAt a = .ram) (v : Nibble) :
    (s.store a v).word a = v := by
  rw [State.word_of_not_io (by simp [h]), State.store_ramWord h, if_pos rfl]

/-! ## PUSH (43_stack.md R165 to R172) -/

/-- `s` with the word `v` pushed. -/
def State.pushed (s : State) (v : Nibble) : State := (s.setSP (s.sp - 1)).store (stackAddr (s.sp - 1)) v

theorem push_of_ram {s : State} (h : s.kindAt (stackAddr (s.sp - 1)) = .ram) (v : Nibble) :
    push v s = .ok (s.pushed v) :=
  push_eq_ok.mpr ⟨State.present_of_ram h, rfl⟩

theorem State.pushed_ramWord_other (s : State) (v : Nibble) {a : Addr} (h : a ≠ stackAddr (s.sp - 1)) :
    (s.pushed v).ramWord a = s.ramWord a :=
  (State.store_ramWord_other _ h.symm v).trans (State.setSP_ramWord ..)

/-- The 11 forms of PUSH from `s`: the state once the source is read, and the word read. -/
def State.pushForms (s : State) : List (Instr × State × Nibble) :=
  [(.pushR .a, s, s.a), (.pushR .b, s, s.b), (.pushR .mx, s.touchSel .mx, s.sel .mx),
    (.pushR .my, s.touchSel .my, s.sel .my), (.pushXP, s, s.xp), (.pushXH, s, s.xh), (.pushXL, s, s.xl),
    (.pushYP, s, s.yp), (.pushYH, s, s.yh), (.pushYL, s, s.yl), (.pushF, s, s.f)]

theorem exec_pushR_of_ram {r : Sel} {s : State} (hr : s.selPresent r = true)
    (h : s.kindAt (stackAddr (s.sp - 1)) = .ram) :
    exec (.pushR r) s = .next ((s.touchSel r).pushed (s.sel r)) :=
  complete_eq_next.mpr (bind_eq_ok.mpr ⟨_, readSel_of_present hr, push_of_ram (by simpa using h) _⟩)

/-- Every form reads its source, an operand at most, and pushes the word read. -/
theorem exec_pushForm {s : State} {p : Instr × State × Nibble} (hp : p ∈ s.pushForms)
    (h : s.kindAt (stackAddr (s.sp - 1)) = .ram) (hx : p.1 = .pushR .mx → s.selPresent .mx = true)
    (hy : p.1 = .pushR .my → s.selPresent .my = true) :
    (∃ r, p.2.1 = s.touchSel r) ∧ exec p.1 s = .next (p.2.1.pushed p.2.2) := by
  have inCore (v : Nibble) : complete (push v s) = .next (s.pushed v) := complete_eq_next.mpr (push_of_ram h v)
  simp only [State.pushForms, List.mem_cons, List.not_mem_nil, or_false] at hp
  rcases hp with rfl | rfl | rfl | rfl | rfl | rfl | rfl | rfl | rfl | rfl | rfl
  case inr.inr.inl => exact ⟨⟨.mx, rfl⟩, exec_pushR_of_ram (hx rfl) h⟩
  case inr.inr.inr.inl => exact ⟨⟨.my, rfl⟩, exec_pushR_of_ram (hy rfl) h⟩
  all_goals exact ⟨⟨.a, rfl⟩, inCore _⟩

/-! ## POP of a word just pushed (R173 to R180) -/

/-- The word pushed comes back, and SP with it. -/
theorem pop_pushed {s : State} (h : s.kindAt (stackAddr (s.sp - 1)) = .ram) (v : Nibble) :
    pop (s.pushed v) = .ok (v, { s with ram := (s.pushed v).ram }) := by
  have hk : (s.setSP (s.sp - 1)).kindAt (stackAddr (s.sp - 1)) = .ram := h
  have hk' : (s.pushed v).kindAt (stackAddr (s.sp - 1)) = .ram := (State.store_kindAt ..).trans hk
  have hsp : (s.pushed v).sp = s.sp - 1 := State.store_sp ..
  have hword : (s.pushed v).word (stackAddr (s.sp - 1)) = v := State.word_store_of_ram hk v
  have hram : s.pushed v = (s.setSP (s.sp - 1)).setRam (s.pushed v).ram := State.store_of_ram hk v
  refine pop_eq_ok.mpr ⟨hsp ▸ State.present_of_ram hk', ?_⟩
  rw [hsp, hword, State.touch_of_ram hk', BitVec.sub_add_cancel, hram]
  rfl

/-- A nibble is its four bits, as F is put together. -/
theorem flags_of_bits : ∀ v : Nibble,
    (BitVec.ofBool (v.getLsbD 3) ++ BitVec.ofBool (v.getLsbD 2) ++ BitVec.ofBool (v.getLsbD 1) ++
      BitVec.ofBool (v.getLsbD 0) : Nibble) = v := by decide

theorem State.setF_f (s : State) (v : Nibble) : (s.setF v).f = v := flags_of_bits v

theorem exec_popR_of_pop {r : Sel} {v : Nibble} {s t : State} (hpop : pop t = .ok (v, s)) (hr : s.selPresent r = true) :
    exec (.popR r) t = .next (s.putSel r v) :=
  complete_eq_next.mpr (bind_eq_ok.mpr ⟨_, hpop, writeSel_of_present hr v⟩)

/-- Settles O25: each PUSH leaves the one state `pushed`, and the pop of every POP gives its word back. -/
theorem pushThenPop : Obligations.PushThenPop := by
  intro s h p hp hx hy
  obtain ⟨⟨r, hr⟩, hpush⟩ := exec_pushForm hp h hx hy
  have hsp : p.2.1.sp = s.sp := by simp [hr]
  have hpop := pop_pushed (s := p.2.1) (by simpa [hr] using h) p.2.2
  have hsel (q : Sel) : p.2.1.selPresent q = s.selPresent q := by rw [hr, State.touchSel_selPresent]
  refine ⟨_, hpush, ⟨fun q hq => ?_, fun q _ hq => ?_, ?_⟩, fun a ha => ?_⟩
  · simp only [List.mem_cons, List.not_mem_nil, or_false] at hq
    rcases hq with rfl | rfl | rfl | rfl | rfl | rfl | rfl | rfl
    all_goals exact complete_eq_next.mpr (bind_eq_ok.mpr ⟨_, hpop, rfl⟩)
  · exact exec_popR_of_pop hpop ((hsel q).trans hq)
  · exact ⟨_, complete_eq_next.mpr (bind_eq_ok.mpr ⟨_, hpop, rfl⟩), State.setF_f .., rfl⟩
  · rw [State.pushed_ramWord_other _ _ (hsp ▸ ha), hr, State.touchSel_ramWord]

/-! ## LBPX (45_data_transfer.md R235) -/

theorem halves_append (v : Byte) : hiNibble v ++ loNibble v = v :=
  BitVec.eq_of_toNat_eq ((append_toNat ..).trans (halves_toNat v))

theorem State.setX_x (s : State) (v : Byte) : (s.setX v).x = v := halves_append v

theorem State.ix_toNat (s : State) : s.ix.toNat = s.xp.toNat * 256 + s.x.toNat := by
  have hx : s.x.toNat = s.xh.toNat * 16 + s.xl.toNat := append_toNat ..
  rw [State.ix, BitVec.toNat_append, ← Nat.shiftLeft_add_eq_or_of_lt s.xl.isLt, Nat.shiftLeft_eq, append_toNat, hx]
  omega

theorem State.ixNext_toNat (s : State) : s.ixNext.toNat = s.xp.toNat * 256 + (s.x + 1).toNat := by
  rw [State.ixNext, BitVec.toNat_append, ← Nat.shiftLeft_add_eq_or_of_lt (s.x + 1).isLt, Nat.shiftLeft_eq]

/-- X + 1 wraps inside the page (D8) and is never X. -/
theorem State.ix_ne_ixNext (s : State) : s.ix ≠ s.ixNext := by
  intro h
  have hnat := congrArg BitVec.toNat h
  rw [State.ix_toNat, State.ixNext_toNat] at hnat
  have hx : s.x.toNat = (s.x + 1).toNat := by omega
  bv_omega

theorem exec_lbpx_of_present {s : State} {e : Byte} (hlo : s.present s.ix = true) (hhi : s.present s.ixNext = true) :
    exec (.lbpx e) s = .next (((s.store s.ix (loNibble e)).store s.ixNext (hiNibble e)).incX 2) :=
  complete_eq_next.mpr (storePairX_eq_ok.mpr ⟨hlo, hhi, rfl⟩)

/-- Settles O36: the two stores do not meet, so each nibble is read back. -/
theorem byteLoad : Obligations.ByteLoad := by
  intro s e hiAddr
  have hnext : BitVec.ofNat 8 (s.x.toNat + 1) = s.x + 1 := by simp [BitVec.ofNat_add]
  have haddr : hiAddr = s.ixNext := congrArg (s.xp ++ ·) hnext
  rw [haddr]
  refine ⟨⟨rfl, rfl⟩, exec_lbpx_of_present, fun hlo hhi => ?_⟩
  refine ⟨_, exec_lbpx_of_present (State.present_of_ram hlo) (State.present_of_ram hhi), ?_, ?_, ?_, ?_,
    fun a ha hc => ?_⟩
  · have hhi' : (s.store s.ix (loNibble e)).kindAt s.ixNext = .ram := (State.store_kindAt ..).trans hhi
    rw [State.incX_ramWord, State.incX_ramWord, State.store_ramWord hhi', if_pos rfl,
      State.store_ramWord_other _ s.ix_ne_ixNext.symm, State.store_ramWord hlo, if_pos rfl, halves_append]
  · rw [State.incX, State.setX_x, BitVec.toNat_add]
    simp [State.x]
  · simp
  · simp [State.f]
  · rw [State.incX_ramWord, State.store_ramWord_other _ hc.symm, State.store_ramWord_other _ ha.symm]

end Sys2Proof.Machine
end

section
/-! PROOFS. A fetch that gives the core nothing to execute (20_memory.md R76; 30_encoding.md R101, R102), and the words
that `UNASSIGNED_OPCODE` makes a second code of an instruction. -/

namespace Sys2Proof.Machine

open Sys2Proof.Config

theorem operationOf_of_excluded {d : Device} {w : Word} (hx : excludedWord d.excluded w = true)
    (ht : treatmentOf d.unassigned w = none) : operationOf d w = .error (.absentInstruction w) := by
  simp [operationOf, hx, ht]

theorem operationOf_of_unassigned {d : Device} {w : Word} (hx : excludedWord d.excluded w = false)
    (hd : (decode w).toOption = none) (ht : treatmentOf d.unassigned w = none) :
    operationOf d w = .error (.unassignedOpcode w) := by
  cases hw : decode w with
  | ok i => simp [hw, Except.toOption] at hd
  | error e => simp [operationOf, hx, hw, ht]

theorem fetch_of_no_word {s : State} (h : Cells.lookup s.dev.rom s.pc.toNat = none) :
    fetch s = .error (.absentProgramAddress s.pc) := by
  simp [fetch, h]

theorem fetch_of_lookup {s : State} {w : Word} (h : Cells.lookup s.dev.rom s.pc.toNat = some w) :
    fetch s = operationOf s.dev w := by
  simp [fetch, h]

/-- Settles O7: a failed fetch is the stop of the step, a second code is its instruction. -/
theorem fetchStops : Obligations.FetchStops := by
  intro s w hr
  have hstop {f : Fault} (hf : fetch s = .error f) (hi : ∀ x ∈ s.inputs, x ≠ .reset) : step s = .fault f :=
    (step_of_no_fetch hr hf).trans (State.stopped_of_no_reset hi f)
  refine ⟨fun hl => hstop (fetch_of_no_word hl), fun hl => ⟨fun hx ht => ?_, fun hx hd ht => ?_, fun i hw ht => ?_⟩⟩
  · exact hstop ((fetch_of_lookup hl).trans (operationOf_of_excluded hx ht))
  · exact hstop ((fetch_of_lookup hl).trans (operationOf_of_unassigned hx hd ht))
  · exact step_of_treatment hr hl hw ht

end Sys2Proof.Machine
end

section
/-! PROOFS. An instruction word as a number (30_encoding.md R91 to R97): what a word of each type is as a number, and
what its fields are. Decoding is then division and remainder of the word, encoding multiplication and addition. -/

namespace Sys2Proof

/-! ## Selectors (R96) -/

@[simp] theorem Sel.ofBits_bits (r : Sel) : Sel.ofBits r.bits = r := by cases r <;> rfl

@[simp] theorem Sel.bits_ofBits : ∀ v : BitVec 2, (Sel.ofBits v).bits = v := by decide

theorem Sel.ofBits_inj {u v : BitVec 2} : Sel.ofBits u = Sel.ofBits v ↔ u = v :=
  (Function.LeftInverse.injective Sel.bits_ofBits).eq_iff

theorem selAt_bits (w : Word) (lo : Nat) : (selAt w lo).bits = field w lo 2 := Sel.bits_ofBits _

/-- The low operand of an `r,q` word is 0 at `A,A` only: the words of INC X and INC Y. -/
theorem Sel.bits_append_eq_zero_iff {r q : Sel} : r.bits ++ q.bits = 0#4 ↔ r = .a ∧ q = .a := by
  cases r <;> cases q <;> decide

/-! ## Words as numbers -/

theorem toNat_append_eq {m n : Nat} (x : BitVec m) (y : BitVec n) : (x ++ y).toNat = x.toNat * 2 ^ n + y.toNat := by
  rw [BitVec.toNat_append, ← Nat.shiftLeft_add_eq_or_of_lt y.isLt, Nat.shiftLeft_eq]

theorem typeI_toNat (op : BitVec 4) (e : Byte) : (typeI op e).toNat = op.toNat * 256 + e.toNat :=
  toNat_append_eq op e

theorem typeII_toNat (op : BitVec 6) (r : Sel) (i : Nibble) :
    (typeII op r i).toNat = (op.toNat * 4 + r.bits.toNat) * 16 + i.toNat :=
  (toNat_append_eq (op ++ r.bits) i).trans (congrArg (· * 16 + i.toNat) (toNat_append_eq op r.bits))

theorem typeIV_toNat (op : BitVec 8) (i : Nibble) : (typeIV op i).toNat = op.toNat * 16 + i.toNat :=
  toNat_append_eq op i

theorem typeIVrq_toNat (op : BitVec 8) (r q : Sel) :
    (typeIVrq op r q).toNat = (op.toNat * 4 + r.bits.toNat) * 4 + q.bits.toNat :=
  (toNat_append_eq (op ++ r.bits) q.bits).trans (congrArg (· * 4 + q.bits.toNat) (toNat_append_eq op r.bits))

theorem typeV_toNat (op : BitVec 10) (r : Sel) : (typeV op r).toNat = op.toNat * 4 + r.bits.toNat :=
  toNat_append_eq op r.bits

theorem psetWord_toNat (p : BitVec 5) : (0b1110010#7 ++ p : Word).toNat = 0xE40 + p.toNat :=
  toNat_append_eq 0b1110010#7 p

theorem typeIVrq_eq_typeIV (op : BitVec 8) (r q : Sel) : typeIVrq op r q = typeIV op (r.bits ++ q.bits) :=
  BitVec.eq_of_toNat_eq (by rw [typeIVrq_toNat, typeIV_toNat, toNat_append_eq]; omega)

/-! ## Fields as numbers -/

theorem extractLsb'_toNat_eq {m : Nat} (v : BitVec m) (lo n : Nat) :
    (v.extractLsb' lo n).toNat = v.toNat / 2 ^ lo % 2 ^ n := by
  rw [BitVec.extractLsb'_toNat, Nat.shiftRight_eq_div_pow]

theorem field_toNat (w : Word) (lo n : Nat) : (field w lo n).toNat = w.toNat / 2 ^ lo % 2 ^ n :=
  extractLsb'_toNat_eq w lo n

theorem field_eq_iff {w : Word} {lo n : Nat} {v : BitVec n} :
    field w lo n = v ↔ w.toNat / 2 ^ lo % 2 ^ n = v.toNat := by
  rw [← BitVec.toNat_inj, field_toNat]

theorem selAt_eq_iff {w : Word} {lo : Nat} {r : Sel} : selAt w lo = r ↔ w.toNat / 2 ^ lo % 4 = r.bits.toNat := by
  rw [← r.ofBits_bits, selAt, Sel.ofBits_inj, field_eq_iff, r.ofBits_bits]
  rfl

theorem selAt_eq_selAt_iff {w : Word} {lo lo' : Nat} :
    selAt w lo = selAt w lo' ↔ w.toNat / 2 ^ lo % 4 = w.toNat / 2 ^ lo' % 4 := by
  rw [selAt_eq_iff, selAt_bits, field_toNat]
  rfl

/-! ## The fields of a word of each type (R91 to R95)

The opcode's high four bits are the page, the bits after them the row and the group within it. -/

@[simp] theorem field_typeI_page (op : BitVec 4) (e : Byte) : field (typeI op e) 8 4 = op :=
  field_eq_iff.mpr (by rw [typeI_toNat]; omega)

@[simp] theorem field_typeI_operand (op : BitVec 4) (e : Byte) : field (typeI op e) 0 8 = e :=
  field_eq_iff.mpr (by rw [typeI_toNat]; omega)

@[simp] theorem field_typeII_page (op : BitVec 6) (r : Sel) (i : Nibble) :
    field (typeII op r i) 8 4 = op.extractLsb' 2 4 :=
  field_eq_iff.mpr (by rw [typeII_toNat, extractLsb'_toNat_eq]; omega)

@[simp] theorem field_typeII_group (op : BitVec 6) (r : Sel) (i : Nibble) :
    field (typeII op r i) 6 2 = op.extractLsb' 0 2 :=
  field_eq_iff.mpr (by rw [typeII_toNat, extractLsb'_toNat_eq]; omega)

@[simp] theorem field_typeII_row (op : BitVec 6) (r : Sel) (i : Nibble) :
    field (typeII op r i) 4 4 = op.extractLsb' 0 2 ++ r.bits :=
  field_eq_iff.mpr (by rw [typeII_toNat, toNat_append_eq, extractLsb'_toNat_eq]; omega)

@[simp] theorem field_typeII_operand (op : BitVec 6) (r : Sel) (i : Nibble) : field (typeII op r i) 0 4 = i :=
  field_eq_iff.mpr (by rw [typeII_toNat]; omega)

@[simp] theorem selAt_typeII (op : BitVec 6) (r : Sel) (i : Nibble) : selAt (typeII op r i) 4 = r :=
  selAt_eq_iff.mpr (by rw [typeII_toNat]; omega)

@[simp] theorem field_typeIV_page (op : BitVec 8) (i : Nibble) : field (typeIV op i) 8 4 = op.extractLsb' 4 4 :=
  field_eq_iff.mpr (by rw [typeIV_toNat, extractLsb'_toNat_eq]; omega)

@[simp] theorem field_typeIV_row (op : BitVec 8) (i : Nibble) : field (typeIV op i) 4 4 = op.extractLsb' 0 4 :=
  field_eq_iff.mpr (by rw [typeIV_toNat, extractLsb'_toNat_eq]; omega)

@[simp] theorem field_typeIV_operand (op : BitVec 8) (i : Nibble) : field (typeIV op i) 0 4 = i :=
  field_eq_iff.mpr (by rw [typeIV_toNat]; omega)

@[simp] theorem field_typeIVrq_page (op : BitVec 8) (r q : Sel) :
    field (typeIVrq op r q) 8 4 = op.extractLsb' 4 4 := by
  rw [typeIVrq_eq_typeIV, field_typeIV_page]

@[simp] theorem field_typeIVrq_row (op : BitVec 8) (r q : Sel) :
    field (typeIVrq op r q) 4 4 = op.extractLsb' 0 4 := by
  rw [typeIVrq_eq_typeIV, field_typeIV_row]

@[simp] theorem field_typeIVrq_operand (op : BitVec 8) (r q : Sel) :
    field (typeIVrq op r q) 0 4 = r.bits ++ q.bits := by
  rw [typeIVrq_eq_typeIV, field_typeIV_operand]

@[simp] theorem selAt_typeIVrq_first (op : BitVec 8) (r q : Sel) : selAt (typeIVrq op r q) 2 = r :=
  selAt_eq_iff.mpr (by rw [typeIVrq_toNat]; omega)

@[simp] theorem selAt_typeIVrq_second (op : BitVec 8) (r q : Sel) : selAt (typeIVrq op r q) 0 = q :=
  selAt_eq_iff.mpr (by rw [typeIVrq_toNat]; omega)

@[simp] theorem field_typeV_page (op : BitVec 10) (r : Sel) : field (typeV op r) 8 4 = op.extractLsb' 6 4 :=
  field_eq_iff.mpr (by rw [typeV_toNat, extractLsb'_toNat_eq]; omega)

@[simp] theorem field_typeV_row (op : BitVec 10) (r : Sel) : field (typeV op r) 4 4 = op.extractLsb' 2 4 :=
  field_eq_iff.mpr (by rw [typeV_toNat, extractLsb'_toNat_eq]; omega)

@[simp] theorem field_typeV_group (op : BitVec 10) (r : Sel) : field (typeV op r) 2 2 = op.extractLsb' 0 2 :=
  field_eq_iff.mpr (by rw [typeV_toNat, extractLsb'_toNat_eq]; omega)

@[simp] theorem selAt_typeV (op : BitVec 10) (r : Sel) : selAt (typeV op r) 0 = r :=
  selAt_eq_iff.mpr (by rw [typeV_toNat]; omega)

end Sys2Proof
end

section
/-! PROOFS. Decode after encode (30_encoding.md R97 to R100): the fields of an instruction's word select its own arm of
the decoder and are its operands. -/

namespace Sys2Proof

theorem decode_encode_pset : ∀ p : BitVec 5, decode (encode (.pset p)) = .ok (.pset p) := by decide

theorem decodeSet_of_wellFormed : ∀ i : Nibble, (Instr.setF i).wellFormed = true → decodeSet i = .setF i := by decide

theorem decodeRst_of_wellFormed : ∀ i : Nibble, (Instr.rstF i).wellFormed = true → decodeRst i = .rstF i := by decide

/-- Settles O1, by the page, row and group of each instruction's word. -/
theorem decodeEncodeAgree : Obligations.DecodeEncodeAgree := by
  intro i hwf
  cases i with
  | jp e | jpC e | jpNC e | jpZ e | jpNZ e | call e | calz e | retd e | ldXE e | ldYE e | lbpx e =>
    simp [encode, decode]
  | adcXHI i | adcXLI i | adcYHI i | adcYLI i | cpXHI i | cpXLI i | cpYHI i | cpYLI i =>
    simp [encode, decode, decodeA]
  | addRQ r q | adcRQ r q | subRQ r q | sbcRQ r q | andRQ r q | orRQ r q | xorRQ r q | rlc r =>
    simp [encode, decode, decodeA]
  | addRI r i | adcRI r i | andRI r i | orRI r i => simp [encode, decode, decodeC]
  | sbcRI r i | fanRI r i | cpRI r i | notR r => simp [encode, decode, decodeD]
  | xorRI r i =>
    have hi : i ≠ 0xF := by simpa [Instr.wellFormed, Instr.isAliased] using hwf
    simpa [encode, decode, decodeD] using hi
  | pset p => exact decode_encode_pset p
  | ldRI r i => cases r <;> simp [encode, decode, decodeE, Sel.bits]
  | ldpxMXI i | ldpyMYI i | ldRQ r q => simp [encode, decode, decodeE]
  | ldpxRQ r q | ldpyRQ r q =>
    have hrq : r = .a → q ≠ .a := by simpa [Instr.wellFormed, Instr.isAliased, imp_iff_not_or] using hwf
    simpa [encode, decode, decodeE, Sel.bits_append_eq_zero_iff] using hrq
  | ldXPR r | ldXHR r | ldXLR r | ldYPR r | ldYHR r | ldYLR r | rrc r => simp [encode, decode, decodeE]
  | ldRXP r | ldRXH r | ldRXL r | ldRYP r | ldRYH r | ldRYL r => simp [encode, decode, decodeE]
  | cpRQ r q | fanRQ r q => simp [encode, decode, decodeF]
  | acpx r | acpy r | scpx r | scpy r => simp [encode, decode, decodeF]
  | setF i => simp [encode, decode, decodeF, decodeSet_of_wellFormed i hwf]
  | rstF i => simp [encode, decode, decodeF, decodeRst_of_wellFormed i hwf]
  | incMn n | decMn n | ldAMn n | ldBMn n | ldMnA n | ldMnB n => simp [encode, decode, decodeF]
  | ldSPHR r | ldRSPH r => simp [encode, decode, decodeF, decodeFE]
  | pushR r | popR r | ldSPLR r | ldRSPL r => cases r <;> rfl
  | _ => rfl

end Sys2Proof
end

section
/-! PROOFS. Encode after decode, and the words that are no instruction (30_encoding.md R97 to R101). One walk through the
decoder shows of every word that an answer encodes back to it, and that a refusal is of a word R101 lists. That the 73
listed words are refused is then evaluated word by word, and only those 73 are. -/

namespace Sys2Proof

open Sys2Proof.Machine

/-! ## Faithful readings -/

/-- A number in one of the ranges of R101. -/
def Unassigned (n : Nat) : Prop := ∃ r ∈ unassignedRanges, r.1 ≤ n ∧ n ≤ r.2

/-- The decoder's answer `d` is true of the word `w`: an instruction is well-formed and its word is `w`, a refusal is of
an unassigned word. -/
def Reads (w : Word) (d : Except DecodeError Instr) : Prop :=
  match d with
  | .ok i => encode i = w ∧ i.wellFormed = true
  | .error _ => Unassigned w.toNat

section Readings

variable {w : Word} {i : Instr} {e : DecodeError}

theorem reads_of_encode (ha : i.isAliased = false) (hi : (encode i).toNat = w.toNat) : Reads w (.ok i) :=
  ⟨BitVec.eq_of_toNat_eq hi, by rw [Instr.wellFormed, ha]; rfl⟩

/-! An instruction of each type, with its operands read from `w`, where `w` has its opcode. -/

theorem reads_typeI {op : BitVec 4} (ha : i.isAliased = false) (hi : encode i = typeI op (field w 0 8))
    (hop : w.toNat / 256 = op.toNat) : Reads w (.ok i) :=
  reads_of_encode ha (by rw [hi, typeI_toNat, field_toNat]; omega)

theorem reads_typeII {op : BitVec 6} (ha : i.isAliased = false)
    (hi : encode i = typeII op (selAt w 4) (field w 0 4)) (hop : w.toNat / 64 = op.toNat) : Reads w (.ok i) :=
  reads_of_encode ha (by rw [hi, typeII_toNat, selAt_bits, field_toNat, field_toNat]; omega)

theorem reads_typeIV {op : BitVec 8} (ha : i.isAliased = false) (hi : encode i = typeIV op (field w 0 4))
    (hop : w.toNat / 16 = op.toNat) : Reads w (.ok i) :=
  reads_of_encode ha (by rw [hi, typeIV_toNat, field_toNat]; omega)

theorem reads_typeIVrq {op : BitVec 8} (ha : i.isAliased = false)
    (hi : encode i = typeIVrq op (selAt w 2) (selAt w 0)) (hop : w.toNat / 16 = op.toNat) : Reads w (.ok i) :=
  reads_of_encode ha (by rw [hi, typeIVrq_toNat, selAt_bits, selAt_bits, field_toNat, field_toNat]; omega)

theorem reads_typeV {op : BitVec 10} (ha : i.isAliased = false) (hi : encode i = typeV op (selAt w 0))
    (hop : w.toNat / 4 = op.toNat) : Reads w (.ok i) :=
  reads_of_encode ha (by rw [hi, typeV_toNat, selAt_bits, field_toNat]; omega)

/-! The refusals. -/

theorem reads_unassigned (lo hi : Nat) (hmem : (lo, hi) ∈ unassignedRanges) (hlo : lo ≤ w.toNat)
    (hhi : w.toNat ≤ hi) : Reads w (.error e) :=
  ⟨_, hmem, hlo, hhi⟩

/-- The twelve words of RLC's row whose two register fields differ (R99). -/
theorem reads_rlc_fields_differ (hrow : w.toNat / 16 = 0xAF) (hne : w.toNat / 4 % 4 ≠ w.toNat % 4) :
    Reads w (.error e) := by
  have hcases : w.toNat ≤ 0xAF4 ∨ (0xAF6 ≤ w.toNat ∧ w.toNat ≤ 0xAF9) ∨ 0xAFB ≤ w.toNat := by omega
  obtain hhi | ⟨hlo, hhi⟩ | hlo := hcases
  · exact reads_unassigned 0xAF1 0xAF4 (by decide) (by omega) hhi
  · exact reads_unassigned 0xAF6 0xAF9 (by decide) hlo hhi
  · exact reads_unassigned 0xAFB 0xAFE (by decide) hlo (by omega)

/-- The last four words of three rows of index loads. -/
theorem reads_index_row_rest (hrow : w.toNat / 16 = 0xE9 ∨ w.toNat / 16 = 0xEA ∨ w.toNat / 16 = 0xEB)
    (hlow : 12 ≤ w.toNat % 16) : Reads w (.error e) := by
  obtain hrow | hrow | hrow := hrow
  · exact reads_unassigned 0xE9C 0xE9F (by decide) (by omega) (by omega)
  · exact reads_unassigned 0xEAC 0xEAF (by decide) (by omega) (by omega)
  · exact reads_unassigned 0xEBC 0xEBF (by decide) (by omega) (by omega)

/-- The first eight words of the two rows of ACPX, ACPY and SCPX, SCPY. -/
theorem reads_memory_row_rest (hrow : w.toNat / 16 = 0xF2 ∨ w.toNat / 16 = 0xF3) (hlow : w.toNat % 16 < 8) :
    Reads w (.error e) := by
  obtain hrow | hrow := hrow
  · exact reads_unassigned 0xF20 0xF27 (by decide) (by omega) (by omega)
  · exact reads_unassigned 0xF30 0xF37 (by decide) (by omega) (by omega)

/-! ## The walk through the decoder

In the last case of a match the earlier ones are excluded by hypotheses `x = k → False`, which `imp_false` makes
negations for `omega`. -/

theorem decodeA_reads (hw : w.toNat / 256 = 0xA) : Reads w (decodeA w) := by
  simp only [decodeA, field_toNat, Nat.reducePow]
  split
  case h_9 | h_10 | h_11 | h_12 | h_13 | h_14 | h_15 => exact reads_typeIVrq rfl rfl (by bv_omega)
  case h_16 =>
    simp only [imp_false] at *
    have hrow : w.toNat / 16 = 0xAF := by omega
    split
    next hrq => exact reads_typeIVrq rfl (by rw [hrq]; rfl) (by bv_omega)
    next hrq => exact reads_rlc_fields_differ hrow (by simpa [selAt_eq_selAt_iff] using hrq)
  all_goals exact reads_typeIV rfl rfl (by bv_omega)

theorem decodeC_reads (hw : w.toNat / 256 = 0xC) : Reads w (decodeC w) := by
  simp only [decodeC, field_toNat, Nat.reducePow]
  split
  case h_4 =>
    simp only [imp_false] at *
    exact reads_typeII rfl rfl (by bv_omega)
  all_goals exact reads_typeII rfl rfl (by bv_omega)

theorem decodeD_reads (hw : w.toNat / 256 = 0xD) : Reads w (decodeD w) := by
  simp only [decodeD, field_toNat, Nat.reducePow]
  split
  case h_1 =>
    split
    next hi => exact reads_typeII rfl (by rw [hi]; rfl) (by bv_omega)
    next hi => exact reads_typeII (by simpa [Instr.isAliased] using hi) rfl (by bv_omega)
  case h_4 =>
    simp only [imp_false] at *
    exact reads_typeII rfl rfl (by bv_omega)
  all_goals exact reads_typeII rfl rfl (by bv_omega)

theorem decodeE_reads (hw : w.toNat / 256 = 0xE) : Reads w (decodeE w) := by
  simp only [decodeE, field_toNat, Nat.reducePow]
  split
  case h_1 | h_2 => exact reads_of_encode rfl (by rw [encode, psetWord_toNat, field_toNat]; omega)
  case h_3 | h_4 => exact reads_typeIV rfl rfl (by bv_omega)
  case h_5 =>
    split
    case h_4 =>
      simp only [imp_false] at *
      exact reads_typeV rfl rfl (by bv_omega)
    all_goals exact reads_typeV rfl rfl (by bv_omega)
  case h_6 | h_7 | h_8 =>
    split
    case h_4 =>
      simp only [imp_false] at *
      exact reads_index_row_rest (by omega) (by omega)
    all_goals exact reads_typeV rfl rfl (by bv_omega)
  case h_9 => exact reads_typeIVrq rfl rfl (by bv_omega)
  case h_10 => exact reads_unassigned 0xED0 0xEDF (by decide) (by omega) (by omega)
  case h_11 | h_12 =>
    simp only [field_eq_iff]
    split
    next => exact reads_of_encode rfl (by rw [encode]; bv_omega)
    next h0 => exact reads_typeIVrq (by simp [Instr.isAliased, selAt_eq_iff, Sel.bits]; bv_omega) rfl (by bv_omega)
  case h_13 =>
    simp only [imp_false] at *
    exact reads_typeII rfl rfl (by bv_omega)

theorem decodeFC_reads (hw : w.toNat / 16 = 0xFC) : Reads w (decodeFC w) := by
  simp only [decodeFC, field_toNat, Nat.reducePow]
  split
  case h_9 | h_10 | h_11 | h_12 => exact reads_unassigned 0xFCC 0xFCF (by decide) (by omega) (by omega)
  case h_13 =>
    simp only [imp_false] at *
    exact reads_typeV rfl rfl (by bv_omega)
  all_goals exact reads_of_encode rfl (by rw [encode]; bv_omega)

theorem decodeFD_reads (hw : w.toNat / 16 = 0xFD) : Reads w (decodeFD w) := by
  simp only [decodeFD, field_toNat, Nat.reducePow]
  split
  case h_9 | h_10 => exact reads_unassigned 0xFDC 0xFDD (by decide) (by omega) (by omega)
  case h_13 =>
    simp only [imp_false] at *
    exact reads_typeV rfl rfl (by bv_omega)
  all_goals exact reads_of_encode rfl (by rw [encode]; bv_omega)

theorem decodeFE_reads (hw : w.toNat / 16 = 0xFE) : Reads w (decodeFE w) := by
  simp only [decodeFE, field_toNat, Nat.reducePow, field_eq_iff]
  split
  case h_3 =>
    simp only [imp_false] at *
    split
    next => exact reads_of_encode rfl (by rw [encode]; bv_omega)
    next => exact reads_unassigned 0xFE9 0xFEF (by decide) (by bv_omega) (by omega)
  all_goals exact reads_typeV rfl rfl (by bv_omega)

theorem decodeFF_reads (hw : w.toNat / 16 = 0xFF) : Reads w (decodeFF w) := by
  simp only [decodeFF, field_toNat, Nat.reducePow]
  split
  case h_9 | h_10 | h_11 | h_12 => exact reads_of_encode rfl (by rw [encode]; bv_omega)
  case h_13 =>
    simp only [imp_false] at *
    have hcases : w.toNat = 0xFFA ∨ 0xFFC ≤ w.toNat := by omega
    obtain heq | hlo := hcases
    · exact reads_unassigned 0xFFA 0xFFA (by decide) heq.ge heq.le
    · exact reads_unassigned 0xFFC 0xFFE (by decide) hlo (by omega)
  all_goals exact reads_typeV rfl rfl (by bv_omega)

theorem decodeSet_reads (hw : w.toNat / 16 = 0xF4) : Reads w (.ok (decodeSet (field w 0 4))) := by
  simp only [decodeSet, field_toNat, Nat.reducePow]
  split
  case h_5 => exact reads_typeIV (by simp_all [Instr.isAliased, field_eq_iff]) rfl (by bv_omega)
  all_goals exact reads_of_encode rfl (by rw [encode]; bv_omega)

theorem decodeRst_reads (hw : w.toNat / 16 = 0xF5) : Reads w (.ok (decodeRst (field w 0 4))) := by
  simp only [decodeRst, field_toNat, Nat.reducePow]
  split
  case h_5 => exact reads_typeIV (by simp_all [Instr.isAliased, field_eq_iff]) rfl (by bv_omega)
  all_goals exact reads_of_encode rfl (by rw [encode]; bv_omega)

theorem decodeF_reads (hw : w.toNat / 256 = 0xF) : Reads w (decodeF w) := by
  simp only [decodeF, field_toNat, Nat.reducePow]
  split
  case h_1 | h_2 => exact reads_typeIVrq rfl rfl (by bv_omega)
  case h_3 | h_4 =>
    split
    case h_3 =>
      simp only [imp_false] at *
      exact reads_memory_row_rest (by omega) (by omega)
    all_goals exact reads_typeV rfl rfl (by bv_omega)
  case h_5 => exact decodeSet_reads (by omega)
  case h_6 => exact decodeRst_reads (by omega)
  case h_13 => exact decodeFC_reads (by omega)
  case h_14 => exact decodeFD_reads (by omega)
  case h_15 => exact decodeFE_reads (by omega)
  case h_16 =>
    simp only [imp_false] at *
    exact decodeFF_reads (by omega)
  all_goals exact reads_typeIV rfl rfl (by bv_omega)

theorem decode_reads (w : Word) : Reads w (decode w) := by
  simp only [decode, field_toNat, Nat.reducePow]
  split
  case h_11 => exact decodeA_reads (by omega)
  case h_13 => exact decodeC_reads (by omega)
  case h_14 => exact decodeD_reads (by omega)
  case h_15 => exact decodeE_reads (by omega)
  case h_16 =>
    simp only [imp_false] at *
    exact decodeF_reads (by omega)
  all_goals exact reads_typeI rfl rfl (by bv_omega)

end Readings

/-- Settles O2, by the walk through the decoder. -/
theorem encodeDecodeAgree : Obligations.EncodeDecodeAgree := by
  intro w i h
  have hreads := decode_reads w
  rwa [h] at hreads

/-! ## The unassigned words -/

/-- The words of R101 one by one. -/
def unassignedWordList : List Nat := unassignedRanges.flatMap fun r => List.range' r.1 (r.2 + 1 - r.1)

theorem mem_unassignedWordList {n : Nat} : n ∈ unassignedWordList ↔ Unassigned n := by
  simp only [unassignedWordList, Unassigned, List.mem_flatMap, List.mem_range'_1]
  refine exists_congr fun r => and_congr_right fun _ => ?_
  omega

theorem decode_unassignedWordList : ∀ n ∈ unassignedWordList, (decode (BitVec.ofNat 12 n)).toOption = none := by decide

theorem decode_eq_none_iff {w : Word} : (decode w).toOption = none ↔ Unassigned w.toNat := by
  constructor
  · intro h
    have hreads := decode_reads w
    cases hd : decode w with
    | ok i => simp [hd, Except.toOption] at h
    | error e => rwa [hd] at hreads
  · intro h
    simpa using decode_unassignedWordList _ (mem_unassignedWordList.mpr h)

theorem Unassigned.lt {n : Nat} (h : Unassigned n) : n < 4096 := by
  obtain ⟨r, hr, -, hle⟩ := h
  have hbound : ∀ r ∈ unassignedRanges, r.2 < 4096 := by decide
  exact hle.trans_lt (hbound r hr)

theorem decodeTableWord_isNone_iff {k n : Nat} (hn : n < 4096) :
    (decodeTableWord k n).isNone = true ↔ Unassigned n := by
  rw [decodeTableWord, if_pos hn, Option.isNone_iff_eq_none, decode_eq_none_iff, BitVec.toNat_ofNat, Nat.mod_eq_of_lt hn]

/-- The refused numbers of a table word are the listed ones: both lists are without repetition and have the same
members. -/
theorem refused_perm_unassignedWordList :
    ((List.range 4096).filter fun n => (decodeTableWord 16 n).isNone).Perm unassignedWordList := by
  refine (List.perm_ext_iff_of_nodup (List.nodup_range.filter _) (by decide)).mpr fun n => ?_
  rw [List.mem_filter, List.mem_range, mem_unassignedWordList]
  exact ⟨fun ⟨hn, hnone⟩ => (decodeTableWord_isNone_iff hn).mp hnone,
    fun h => ⟨h.lt, (decodeTableWord_isNone_iff h.lt).mpr h⟩⟩

/-- Settles O3: the refused words are those of the ranges, counted on the list of them. -/
theorem unassignedWords : Obligations.UnassignedWords := by
  refine ⟨fun w => ?_, refused_perm_unassignedWordList.length_eq⟩
  simp only [decode_eq_none_iff, Unassigned, List.any_eq_true, Bool.and_eq_true, decide_eq_true_eq]

/-- Settles O4, by decoding each word. -/
theorem writtenWordsDecode : Obligations.WrittenWordsDecode := by
  unfold Obligations.WrittenWordsDecode
  decide

end Sys2Proof
end

section
/-! PROOFS. The aliases of R100 (30_encoding.md): each is its general form at one operand. The mask of a
flag instruction moves one flag and leaves three, LDPX A,A and LDPY A,A write A to itself, XOR with 0FH is NOT. -/

namespace Sys2Proof.Machine

open Sys2Proof.Config

/-! ## The masks of one flag -/

theorem State.orFlags_eq (s : State) (i : Nibble) :
    s.orFlags i =
      { s with
          fi := s.fi || i.getLsbD 3, fd := s.fd || i.getLsbD 2
          fz := s.fz || i.getLsbD 1, fc := s.fc || i.getLsbD 0 } :=
  rfl

theorem State.andFlags_eq (s : State) (i : Nibble) :
    s.andFlags i =
      { s with
          fi := s.fi && i.getLsbD 3, fd := s.fd && i.getLsbD 2
          fz := s.fz && i.getLsbD 1, fc := s.fc && i.getLsbD 0 } :=
  rfl

theorem State.orFlags_one (s : State) : s.orFlags 1 = s.setC true := by simp [State.orFlags_eq, State.setC]

theorem State.orFlags_two (s : State) : s.orFlags 2 = s.setZ true := by simp [State.orFlags_eq, State.setZ]

theorem State.orFlags_four (s : State) : s.orFlags 4 = s.setD true := by simp [State.orFlags_eq, State.setD]

theorem State.orFlags_eight (s : State) : s.orFlags 8 = s.setI true := by simp [State.orFlags_eq, State.setI]

theorem State.andFlags_not_eight (s : State) : s.andFlags 7 = s.setI false := by simp [State.andFlags_eq, State.setI]

theorem State.andFlags_not_four (s : State) : s.andFlags 0xB = s.setD false := by simp [State.andFlags_eq, State.setD]

theorem State.andFlags_not_two (s : State) : s.andFlags 0xD = s.setZ false := by simp [State.andFlags_eq, State.setZ]

theorem State.andFlags_not_one (s : State) : s.andFlags 0xE = s.setC false := by simp [State.andFlags_eq, State.setC]

/-! ## The other aliases -/

/-- A move of A to A changes nothing. -/
theorem moveSel_a_a (s : State) : moveSel .a .a s = .ok s := rfl

theorem exec_ldpxRQ_a_a (s : State) : exec (.ldpxRQ .a .a) s = exec .incX s := by
  change complete (moveSel .a .a s >>= fun s1 => .ok (s1.incX 1)) = _
  rw [moveSel_a_a]
  rfl

theorem exec_ldpyRQ_a_a (s : State) : exec (.ldpyRQ .a .a) s = exec .incY s := by
  change complete (moveSel .a .a s >>= fun s1 => .ok (s1.incY 1)) = _
  rw [moveSel_a_a]
  rfl

theorem xor_ones : ∀ v : Nibble, v ^^^ 0xF = ~~~v := by decide

theorem exec_xorRI_ones (r : Sel) (s : State) : exec (.xorRI r 0xF) s = exec (.notR r) s := by
  change complete (modifySel r (fun v s1 => logic4 (v ^^^ 0xF) s1) s) = _
  simp only [xor_ones]
  rfl

/-! ## One word, one meaning -/

theorem encode_general (i : Instr) : encode i.general = encode i := by
  cases i <;> rfl

theorem exec_general (i : Instr) (s : State) : exec i.general s = exec i s := by
  cases i with
  | scf => exact congrArg Host.Outcome.next s.orFlags_one
  | szf => exact congrArg Host.Outcome.next s.orFlags_two
  | sdf => exact congrArg Host.Outcome.next s.orFlags_four
  | ei => exact congrArg Host.Outcome.next s.orFlags_eight
  | di => exact congrArg Host.Outcome.next s.andFlags_not_eight
  | rdf => exact congrArg Host.Outcome.next s.andFlags_not_four
  | rzf => exact congrArg Host.Outcome.next s.andFlags_not_two
  | rcf => exact congrArg Host.Outcome.next s.andFlags_not_one
  | incX => exact exec_ldpxRQ_a_a s
  | incY => exact exec_ldpyRQ_a_a s
  | notR r => exact exec_xorRI_ones r s
  | _ => rfl

/-- Settles O5: each mnemonic and its general form have one word and one meaning. -/
theorem aliasesAreGeneralForms : Obligations.AliasesAreGeneralForms := fun i s =>
  ⟨encode_general i, exec_general i s⟩

end Sys2Proof.Machine
end

section
/-! PROOFS. Branches (40_branch.md R121 to R135): the jumps, CALL and RET, and the way through an interrupt and back
(60_exceptions.md R306, R312). One state says what pushing a return address leaves, one what popping it leaves; over RAM
the second finds what the first stored. -/

namespace Sys2Proof.Machine

open Sys2Proof.Config

/-! ## The jumps (40_branch.md R121 to R126) -/

theorem exec_jp (d : Byte) (s : State) : exec (.jp d) s = .next (s.jumpTo d) := rfl

theorem exec_jpC (d : Byte) (s : State) : exec (.jpC d) s = if s.fc then exec (.jp d) s else .next s := by
  change complete (.ok (if s.fc then s.jumpTo d else s)) = _
  split <;> rfl

theorem exec_jpNC (d : Byte) (s : State) : exec (.jpNC d) s = if s.fc then .next s else exec (.jp d) s := by
  change complete (.ok (if s.fc then s else s.jumpTo d)) = _
  split <;> rfl

theorem exec_jpZ (d : Byte) (s : State) : exec (.jpZ d) s = if s.fz then exec (.jp d) s else .next s := by
  change complete (.ok (if s.fz then s.jumpTo d else s)) = _
  split <;> rfl

theorem exec_jpNZ (d : Byte) (s : State) : exec (.jpNZ d) s = if s.fz then .next s else exec (.jp d) s := by
  change complete (.ok (if s.fz then s else s.jumpTo d)) = _
  split <;> rfl

/-- Settles O12: both jumps are `jumpTo`, JPBA with B:A as the step. -/
theorem jumpEffects : Obligations.JumpEffects := fun d s => ⟨⟨rfl, rfl⟩, exec_jp d s, ⟨rfl, rfl⟩, rfl⟩

/-- Settles O13, by the choice each conditional jump makes on its flag. -/
theorem conditionalJumps : Obligations.ConditionalJumps := by
  intro d s
  rw [exec_jpC, exec_jpNC, exec_jpZ, exec_jpNZ]
  refine ⟨⟨rfl, rfl⟩, ⟨rfl, rfl⟩, ⟨rfl, rfl⟩, ⟨rfl, rfl⟩, fun h => ?_, fun h => ?_, fun h => ?_, fun h => ?_,
    exec_jp d s⟩
  all_goals
    rw [h]
    exact ⟨rfl, rfl⟩

/-! ## Pushing the return address (R127, R128, R135) -/

/-- `s` with its return address stored in the three words below SP, and SP below them. -/
def State.returnPushed (s : State) : State :=
  (((s.store (stackAddr (s.sp - 1)) s.pcp).store (stackAddr (s.sp - 2)) (hiNibble s.pcs)).store
    (stackAddr (s.sp - 3)) (loNibble s.pcs)).setSP (s.sp - 3)

theorem pushReturn_of_pushRoom {s : State} (h : s.pushRoom) : pushReturn s = .ok s.returnPushed := by
  obtain ⟨h1, h2, h3⟩ := h
  exact pushReturn_eq_ok.mpr ⟨h1, h2, h3, rfl⟩

theorem State.returnPushed_pcb (s : State) : s.returnPushed.pcb = s.pcb := by simp [State.returnPushed]

theorem State.returnPushed_npp (s : State) : s.returnPushed.npp = s.npp := by simp [State.returnPushed]

theorem exec_call_of_pushRoom {s : State} (h : s.pushRoom) (d : Byte) :
    exec (.call d) s = .next (s.returnPushed.setPC s.returnPushed.pcb s.npp d) := by
  rw [← s.returnPushed_npp]
  exact complete_eq_next.mpr (bind_eq_ok.mpr ⟨_, pushReturn_of_pushRoom h, rfl⟩)

theorem exec_calz_of_pushRoom {s : State} (h : s.pushRoom) (d : Byte) :
    exec (.calz d) s = .next (s.returnPushed.setPC s.returnPushed.pcb 0 d) :=
  complete_eq_next.mpr (bind_eq_ok.mpr ⟨_, pushReturn_of_pushRoom h, rfl⟩)

/-- Settles O15: CALL and CALZ differ in the page they go to. -/
theorem callEffects : Obligations.CallEffects := fun d _ h =>
  ⟨⟨rfl, rfl⟩, exec_call_of_pushRoom h d, ⟨rfl, rfl⟩, exec_calz_of_pushRoom h d⟩

/-! ## Popping it (R129, R130, R131, R135) -/

/-- `s` with the words at SP, SP+1, SP+2 read into PCSL, PCSH, PCP, and SP above them. -/
def State.returnPopped (s : State) : State :=
  let s1 := s.touch (stackAddr s.sp)
  let s2 := s1.touch (stackAddr (s.sp + 1))
  let s3 := s2.touch (stackAddr (s.sp + 2))
  (s3.setPC s3.pcb (s2.word (stackAddr (s.sp + 2)))
    (s1.word (stackAddr (s.sp + 1)) ++ s.word (stackAddr s.sp))).setSP (s.sp + 3)

theorem popReturn_of_popRoom {s : State} (h : s.popRoom) : popReturn s = .ok s.returnPopped := by
  obtain ⟨h0, h1, h2⟩ := h
  refine popReturn_eq_ok.mpr ⟨h0, h1, h2, ?_⟩
  simp only [State.returnPopped, State.touch_pcb]

theorem exec_ret_of_popRoom {s : State} (h : s.popRoom) : exec .ret s = .next s.returnPopped :=
  complete_eq_next.mpr (popReturn_of_popRoom h)

theorem exec_rets_of_popRoom {s : State} (h : s.popRoom) : exec .rets s = .next s.returnPopped.advance :=
  complete_eq_next.mpr (bind_eq_ok.mpr ⟨_, popReturn_of_popRoom h, rfl⟩)

theorem State.returnPopped_ix (s : State) : s.returnPopped.ix = s.ix := by simp [State.returnPopped]

theorem State.returnPopped_ixNext (s : State) : s.returnPopped.ixNext = s.ixNext := by simp [State.returnPopped]

theorem State.returnPopped_present (s : State) (a : Addr) : s.returnPopped.present a = s.present a := by
  simp [State.returnPopped]

theorem exec_retd_of_popRoom {s : State} (h : s.popRoom) (hlo : s.present s.ix = true) (hhi : s.present s.ixNext = true)
    (e : Byte) :
    exec (.retd e) s =
      .next (((s.returnPopped.store s.ix (loNibble e)).store s.ixNext (hiNibble e)).incX 2) := by
  refine complete_eq_next.mpr (bind_eq_ok.mpr ⟨_, popReturn_of_popRoom h, storePairX_eq_ok.mpr ?_⟩)
  rw [s.returnPopped_ix, s.returnPopped_ixNext, s.returnPopped_present, s.returnPopped_present]
  exact ⟨hlo, hhi, rfl⟩

/-- Page, high and low nibble side by side are the counter, however they are put together. -/
theorem counter_of_nibbles (pg hi lo : Nibble) : (pg ++ hi ++ lo : BitVec 12) = pg ++ (hi ++ lo) := by
  rw [BitVec.append_assoc, BitVec.cast_eq]

/-- Settles O16: RET is the pop, RETS counts it up, RETD stores its byte after it. -/
theorem returnEffects : Obligations.ReturnEffects := by
  intro e s h lo s1 hi s2 pg s3 back skip
  refine ⟨⟨rfl, rfl⟩, ⟨rfl, rfl⟩, ⟨rfl, rfl⟩, exec_ret_of_popRoom h, ?_,
    fun hlo hhi => exec_retd_of_popRoom h hlo hhi e⟩
  have hskip : skip = pg ++ (hi ++ lo) + 1 := congrArg (· + 1) (counter_of_nibbles pg hi lo)
  rw [hskip]
  exact exec_rets_of_popRoom h

/-! ## The pop of a return address pushed in RAM (R134, R135) -/

theorem State.pushRam.pushRoom {s : State} (h : s.pushRam) : s.pushRoom := by
  obtain ⟨h1, h2, h3⟩ := h
  exact ⟨State.present_of_ram h1, State.present_of_ram h2, State.present_of_ram h3⟩

/-- In RAM the push changes data memory and SP, nothing else. -/
theorem State.returnPushed_of_ram {s : State} (h : s.pushRam) :
    ∃ m, s.returnPushed = (s.setRam m).setSP (s.sp - 3) := by
  obtain ⟨h1, h2, h3⟩ := h
  refine ⟨s.returnPushed.ram, ?_⟩
  simp only [State.returnPushed, State.store, State.setRam_kindAt, h1, h2, h3]
  rfl

theorem stackAddr_toNat (p : Byte) : (stackAddr p).toNat = p.toNat := by
  rw [stackAddr, BitVec.toNat_append]
  simp

theorem stackAddr_inj {p q : Byte} : stackAddr p = stackAddr q ↔ p = q := by
  refine ⟨fun h => BitVec.eq_of_toNat_eq ?_, congrArg stackAddr⟩
  rw [← stackAddr_toNat, h, stackAddr_toNat]

/-- Two words of the stack less than 256 apart are two words, even where SP wraps (D6). -/
theorem stackAddr_sub_ne (p : Byte) {j k : Byte} (h : j ≠ k) : stackAddr (p - j) ≠ stackAddr (p - k) := by
  rw [ne_eq, stackAddr_inj]
  exact fun he => h (by simpa using he)

/-- The three words of the return address, each where the push stored it. -/
theorem State.returnPushed_ramWord {s : State} (h : s.pushRam) :
    s.returnPushed.ramWord (stackAddr (s.sp - 1)) = s.pcp ∧
      s.returnPushed.ramWord (stackAddr (s.sp - 2)) = hiNibble s.pcs ∧
        s.returnPushed.ramWord (stackAddr (s.sp - 3)) = loNibble s.pcs := by
  obtain ⟨h1, h2, h3⟩ := h
  have n12 := stackAddr_sub_ne s.sp (j := 1) (k := 2) (by decide)
  have n13 := stackAddr_sub_ne s.sp (j := 1) (k := 3) (by decide)
  have n23 := stackAddr_sub_ne s.sp (j := 2) (k := 3) (by decide)
  simp only [State.returnPushed, State.setSP_ramWord, State.store_ramWord, State.store_kindAt, h1, h2, h3, n12.symm,
    n13.symm, n23.symm, if_true, if_false, and_self]

theorem State.returnPushed_ramWord_other {s : State} {a : Addr} (h1 : a ≠ stackAddr (s.sp - 1))
    (h2 : a ≠ stackAddr (s.sp - 2)) (h3 : a ≠ stackAddr (s.sp - 3)) : s.returnPushed.ramWord a = s.ramWord a := by
  rw [State.returnPushed, State.setSP_ramWord, State.store_ramWord_other _ h3.symm, State.store_ramWord_other _ h2.symm,
    State.store_ramWord_other _ h1.symm]

/-- What RAM reads depends on the words written and the reset they were written after. -/
theorem State.ramWord_congr {s t : State} (hram : t.ram = s.ram) (hepoch : t.ramEpoch = s.ramEpoch) (a : Addr) :
    t.ramWord a = s.ramWord a := by
  rw [State.ramWord, State.ramWord, hram, hepoch]

/-- RET with a RAM stack moves three words and touches nothing. -/
theorem exec_ret_of_ram {t : State} (h0 : t.kindAt (stackAddr t.sp) = .ram)
    (h1 : t.kindAt (stackAddr (t.sp + 1)) = .ram) (h2 : t.kindAt (stackAddr (t.sp + 2)) = .ram) :
    exec .ret t = .next ((t.setPC t.pcb (t.ramWord (stackAddr (t.sp + 2)))
      (t.ramWord (stackAddr (t.sp + 1)) ++ t.ramWord (stackAddr t.sp))).setSP (t.sp + 3)) := by
  rw [exec_ret_of_popRoom ⟨State.present_of_ram h0, State.present_of_ram h1, State.present_of_ram h2⟩]
  have hword {a : Addr} (ha : t.kindAt a = .ram) : t.word a = t.ramWord a := State.word_of_not_io (by simp [ha])
  simp only [State.returnPopped, State.touch_of_ram, h0, h1, h2, hword]

/-- RET where the push left SP and data memory, whatever the rest has become in the same device: the counter and SP are
what they were before the push, and the rest stays. -/
theorem exec_ret_of_returnPushed {s t : State} {m : Memory} (h : s.pushRam)
    (hm : s.returnPushed = (s.setRam m).setSP (s.sp - 3)) (hsp : t.sp = s.sp - 3) (hram : t.ram = m)
    (hepoch : t.ramEpoch = s.ramEpoch) (hdev : t.dev = s.dev) :
    exec .ret t = .next ((t.setPC t.pcb s.pcp s.pcs).setSP s.sp) := by
  obtain ⟨hpage, hhigh, hlow⟩ := State.returnPushed_ramWord h
  obtain ⟨h1, h2, h3⟩ := h
  have hkind : t.kindAt = s.kindAt := funext (State.kindAt_of_dev hdev)
  have hword : t.ramWord = s.returnPushed.ramWord := funext (hm ▸ State.ramWord_congr hram hepoch)
  have hsp1 : t.sp + 1 = s.sp - 2 := by rw [hsp]; bv_omega
  have hsp2 : t.sp + 2 = s.sp - 1 := by rw [hsp]; bv_omega
  have hsp3 : t.sp + 3 = s.sp := by rw [hsp]; bv_omega
  rw [exec_ret_of_ram (by rw [hkind, hsp, h3]) (by rw [hkind, hsp1, h2]) (by rw [hkind, hsp2, h1]), hword, hsp1, hsp2,
    hsp3, hsp, hpage, hhigh, hlow, halves_append]

/-- Settles O17: what RET pops is what CALL or CALZ pushed; the counter they set instead does not matter. -/
theorem callThenReturn : Obligations.CallThenReturn := by
  intro s d h i hi
  obtain ⟨m, hm⟩ := State.returnPushed_of_ram h
  obtain ⟨pg, hcall⟩ : ∃ pg, exec i s = .next (s.returnPushed.setPC s.returnPushed.pcb pg d) := by
    simp only [List.mem_cons, List.not_mem_nil, or_false] at hi
    rcases hi with rfl | rfl
    · exact ⟨_, exec_call_of_pushRoom h.pushRoom d⟩
    · exact ⟨_, exec_calz_of_pushRoom h.pushRoom d⟩
  rw [hm] at hcall
  refine ⟨_, _, hcall, exec_ret_of_returnPushed h hm rfl rfl rfl rfl, rfl, fun a h1 h2 h3 => ?_⟩
  rw [← State.returnPushed_ramWord_other h1 h2 h3, hm]
  exact State.ramWord_congr rfl rfl a

/-- The state in which the routine of vector `v` starts, once the return address is pushed (60_exceptions.md R306). -/
def State.entered (s : State) (v : Nibble) : State :=
  ((((s.setI false).setNext s.pcb 1).setPC s.pcb 1 ((0 : Nibble) ++ v)).setRun .run).setHidden false false

theorem raiseInterrupt_eq_entered {s : State} (h : s.pushRoom) (v : Nibble) :
    raiseInterrupt v s = .ok (s.returnPushed.entered v) :=
  raiseInterrupt_eq_ok.mpr ⟨_, pushReturn_of_pushRoom h, rfl⟩

/-- Settles O58: as for a call, since entry pushes the same return address; I and NBP:NPP stay as entry left them. -/
theorem interruptThenReturn : Obligations.InterruptThenReturn := by
  intro s v h
  obtain ⟨m, hm⟩ := State.returnPushed_of_ram h
  have hentry := raiseInterrupt_eq_entered h.pushRoom v
  rw [hm] at hentry
  refine ⟨_, _, hentry, exec_ret_of_returnPushed h hm rfl rfl rfl rfl, rfl, fun a h1 h2 h3 => ?_⟩
  rw [← State.returnPushed_ramWord_other h1 h2 h3, hm]
  exact State.ramWord_congr rfl rfl a

end Sys2Proof.Machine
end

section
/-! PROOFS. System control (41_system_control.md R140 to R144): the four instructions, and HALT and SLEEP, which last
while the input at each boundary leaves the core as it is and end at the entry of an interrupt (60_exceptions.md R309). -/

namespace Sys2Proof.Machine

/-! ## The four instructions (R140 to R143) -/

theorem exec_nop5 (s : State) : exec .nop5 s = .next s := rfl

theorem exec_nop7 (s : State) : exec .nop7 s = .next s := rfl

theorem exec_halt (s : State) : exec .halt s = .next (s.setRun .halt) := rfl

theorem exec_slp (s : State) : exec .slp s = .next (s.setRun .sleep) := rfl

/-- Settles O18: two leave the state, two set the run state. -/
theorem systemControlEffects : Obligations.SystemControlEffects := fun s =>
  ⟨⟨rfl, rfl⟩, exec_nop5 s, ⟨rfl, rfl⟩, exec_nop7 s, ⟨rfl, rfl⟩, exec_halt s, ⟨rfl, rfl⟩, exec_slp s⟩

/-! ## Waiting (R142 to R144, R304) -/

theorem State.boundary_quiet {s : State} {rest : List Input} (h : s.inputs = .quiet :: rest) :
    s.boundary = .ok (s.setInputs rest) := by
  unfold State.boundary; rw [h]

/-- Nothing that is to come changes a core that executes nothing: requests are turned away, or there are none. -/
def State.Undisturbed (s : State) : Prop :=
  (s.fi = false ∧ ∀ x ∈ s.inputs, x ≠ .reset) ∨ ∀ x ∈ s.inputs, x = .quiet

/-- A boundary without an effect on the core uses up its input, if there is one. -/
theorem State.Undisturbed.boundary_eq {s : State} (h : s.Undisturbed) :
    s.boundary = .ok (s.setInputs (s.inputs.drop 1)) := by
  cases hi : s.inputs with
  | nil =>
    have hsame : s.setInputs [] = s := by rw [← hi]; rfl
    exact (State.boundary_nil hi).trans (congrArg Except.ok hsame.symm)
  | cons x rest =>
    have hx : x ∈ s.inputs := hi ▸ List.mem_cons_self
    cases x with
    | quiet => exact State.boundary_quiet hi
    | request v =>
      obtain ⟨hfi, -⟩ := h.resolve_right fun hquiet => nomatch hquiet _ hx
      exact State.boundary_request_refused hi (State.accepts_of_not_fi hfi v)
    | reset =>
      rcases h with ⟨-, hnone⟩ | hquiet
      · exact absurd rfl (hnone _ hx)
      · exact nomatch hquiet _ hx

/-- `s` after `n` boundaries without an effect on the core. -/
def State.waited (s : State) (n : Nat) : State := (s.setHidden false false).setInputs (s.inputs.drop n)

theorem State.waited_waited (s : State) (m n : Nat) : (s.waited m).waited n = s.waited (m + n) := by
  simp only [State.waited, State.setInputs_inputs, List.drop_drop]
  rfl

theorem State.Undisturbed.waited {s : State} (h : s.Undisturbed) (n : Nat) : (s.waited n).Undisturbed :=
  h.imp (fun ⟨hfi, hnone⟩ => ⟨hfi, fun x hx => hnone x (List.mem_of_mem_drop hx)⟩)
    fun hquiet x hx => hquiet x (List.mem_of_mem_drop hx)

theorem step_of_undisturbed {s : State} (hr : s.run ≠ .run) (h : s.Undisturbed) : step s = .next (s.waited 1) :=
  have hcleared : (s.setHidden false false).Undisturbed := h
  (step_of_halted hr).trans (State.settle_of_boundary hcleared.boundary_eq)

theorem run_of_undisturbed {s : State} (hr : s.run ≠ .run) (h : s.Undisturbed) (n : Nat) :
    Host.Core.run Sys2Proof.core (n + 1) s = .next (s.waited (n + 1)) := by
  induction n generalizing s with
  | zero => exact run_one (step_of_undisturbed hr h)
  | succ n ih =>
    have hrest := ih (s := s.waited 1) hr (h.waited 1)
    rw [run_succ_of_step (step_of_undisturbed hr h), hrest, State.waited_waited, Nat.add_comm 1]

/-! ## Waking up (R304, R306, R309) -/

/-- The two delays are cleared before the boundary, so a request meets I alone. -/
theorem step_of_halted_request {s : State} {v : Nibble} {rest : List Input} (hr : s.run ≠ .run) (hfi : s.fi = true)
    (hv : v ≠ 0) (hi : s.inputs = .request v :: rest) (hroom : s.pushRoom) :
    step s = .next ((((s.setHidden false false).setInputs rest).returnPushed).entered v) := by
  have hentry : (s.setHidden false false).boundary = raiseInterrupt v ((s.setHidden false false).setInputs rest) :=
    State.boundary_request_accepted hi ((State.accepts_iff hv).mpr ⟨hfi, rfl, rfl⟩)
  have hroom' : ((s.setHidden false false).setInputs rest).pushRoom := by simpa [State.pushRoom] using hroom
  rw [step_of_halted hr]
  exact State.settle_of_boundary (hentry.trans (raiseInterrupt_eq_entered hroom' v))

theorem State.entered_pc (s : State) (v : Nibble) : (s.entered v).pc = s.pcb ++ (1 : Nibble) ++ (0 : Nibble) ++ v := by
  rw [BitVec.append_assoc, BitVec.cast_eq]
  rfl

theorem State.returnPushed_sp (s : State) : s.returnPushed.sp = s.sp - 3 := rfl

theorem State.returnPushed_inputs (s : State) : s.returnPushed.inputs = s.inputs := by simp [State.returnPushed]

/-- Settles O19: standby by induction on the steps, the wake-up by the entry of the interrupt. -/
theorem standbyWaitsForAnInterrupt : Obligations.StandbyWaitsForAnInterrupt := by
  refine ⟨fun s n hr h => run_of_undisturbed hr h n, fun s v rest hr hfi hv hi hroom => ?_⟩
  refine ⟨_, step_of_halted_request hr hfi hv hi hroom, rfl, ?_, rfl, ?_, ?_⟩
  · rw [State.entered_pc, State.returnPushed_pcb]
    rfl
  · exact State.returnPushed_sp _
  · exact State.returnPushed_inputs _

end Sys2Proof.Machine
end

section
/-! PROOFS. The stack instructions one by one (43_stack.md R165 to R186), at any address with something behind it: what
a PUSH and a POP leave, and the transfers between r and the halves of SP. -/

namespace Sys2Proof.Machine

open Sys2Proof.Config

/-! ## The stack pointer alone (R181 to R186) -/

/-- The halves of a byte put together from two nibbles (R26). -/
theorem append_toNat_halves (h l : Nibble) :
    (h ++ l : Byte).toNat / 16 = h.toNat ∧ (h ++ l : Byte).toNat % 16 = l.toNat := by
  rw [append_toNat]
  omega

theorem hiNibble_eq_ofNat (v : Byte) : hiNibble v = BitVec.ofNat 4 (v.toNat / 16) := by
  rw [← hiNibble_toNat, BitVec.ofNat_toNat, BitVec.setWidth_eq]

theorem loNibble_eq_ofNat (v : Byte) : loNibble v = BitVec.ofNat 4 v.toNat := by
  rw [BitVec.ofNat_toNat]
  rfl

theorem exec_ldSPHR_of_present {r : Sel} {s : State} (h : s.selPresent r = true) :
    exec (.ldSPHR r) s = .next ((s.touchSel r).setSP (s.sel r ++ loNibble s.sp)) := by
  rw [← s.touchSel_sp r]
  exact complete_eq_next.mpr (bind_eq_ok.mpr ⟨_, readSel_of_present h, rfl⟩)

theorem exec_ldSPLR_of_present {r : Sel} {s : State} (h : s.selPresent r = true) :
    exec (.ldSPLR r) s = .next ((s.touchSel r).setSP (hiNibble s.sp ++ s.sel r)) := by
  rw [← s.touchSel_sp r]
  exact complete_eq_next.mpr (bind_eq_ok.mpr ⟨_, readSel_of_present h, rfl⟩)

theorem exec_ldRSPH_of_present {r : Sel} {s : State} (h : s.selPresent r = true) :
    exec (.ldRSPH r) s = .next (s.putSel r (hiNibble s.sp)) :=
  complete_eq_next.mpr (writeSel_of_present h _)

theorem exec_ldRSPL_of_present {r : Sel} {s : State} (h : s.selPresent r = true) :
    exec (.ldRSPL r) s = .next (s.putSel r (loNibble s.sp)) :=
  complete_eq_next.mpr (writeSel_of_present h _)

/-- Settles O26: SP counts as a byte does, and a load replaces one of the two nibbles it is put together from. -/
theorem stackPointerTransfers : Obligations.StackPointerTransfers := by
  intro s r
  refine ⟨⟨⟨rfl, rfl⟩, _, rfl, rfl, BitVec.toNat_add ..⟩, ⟨⟨rfl, rfl⟩, _, rfl, rfl, ?_⟩,
    ⟨⟨rfl, rfl⟩, ⟨rfl, rfl⟩, ⟨rfl, rfl⟩, rfl, rfl⟩, fun h => ⟨?_, ?_, ?_, ?_⟩⟩
  · rw [State.setSP_sp, BitVec.toNat_sub, Nat.add_comm]
    rfl
  · obtain ⟨hhi, hlo⟩ := append_toNat_halves (s.sel r) (loNibble s.sp)
    exact ⟨_, exec_ldSPHR_of_present h, rfl, hhi, hlo.trans (loNibble_toNat _)⟩
  · obtain ⟨hhi, hlo⟩ := append_toNat_halves (hiNibble s.sp) (s.sel r)
    exact ⟨_, exec_ldSPLR_of_present h, rfl, hhi.trans (hiNibble_toNat _), hlo⟩
  · rw [← hiNibble_eq_ofNat]
    exact exec_ldRSPH_of_present h
  · rw [← loNibble_eq_ofNat]
    exact exec_ldRSPL_of_present h

/-! ## PUSH (R165 to R172, R187 to R189) -/

/-- R188: the source is read first, then pushed from the state the read leaves. -/
theorem exec_pushR_of_present {r : Sel} {s : State} (hr : s.selPresent r = true)
    (h : s.present (stackAddr (s.sp - 1)) = true) :
    exec (.pushR r) s = .next ((s.touchSel r).pushed (s.sel r)) :=
  complete_eq_next.mpr (bind_eq_ok.mpr ⟨_, readSel_of_present hr, push_eq_ok.mpr ⟨by simpa using h, rfl⟩⟩)

/-- F is I:D:Z:C (R189). -/
theorem bits_of_flags : ∀ fi fd fz fc : Bool,
    let w : Nibble := BitVec.ofBool fi ++ BitVec.ofBool fd ++ BitVec.ofBool fz ++ BitVec.ofBool fc
    w.getLsbD 3 = fi ∧ w.getLsbD 2 = fd ∧ w.getLsbD 1 = fz ∧ w.getLsbD 0 = fc := by decide

/-- Settles O23: a source in the core is pushed at once, an operand is read first and leaves SP as it was. -/
theorem pushEffects : Obligations.PushEffects := by
  intro s h put
  have inCore (v : Nibble) : complete (push v s) = .next (put s v) :=
    complete_eq_next.mpr (push_eq_ok.mpr ⟨h, rfl⟩)
  refine ⟨fun r => ⟨⟨rfl, rfl⟩, fun hr => ?_⟩, ⟨⟨rfl, rfl⟩, inCore s.xp⟩, ⟨⟨rfl, rfl⟩, inCore s.xh⟩,
    ⟨⟨rfl, rfl⟩, inCore s.xl⟩, ⟨⟨rfl, rfl⟩, inCore s.yp⟩, ⟨⟨rfl, rfl⟩, inCore s.yh⟩, ⟨⟨rfl, rfl⟩, inCore s.yl⟩,
    ⟨rfl, rfl⟩, s.f, inCore s.f, bits_of_flags s.fi s.fd s.fz s.fc⟩
  have hput : (s.touchSel r).pushed (s.sel r) = put (s.touchSel r) (s.sel r) := by
    rw [State.pushed, State.touchSel_sp]
    rfl
  rw [exec_pushR_of_present hr h, hput]

/-! ## POP (R173 to R180, R187 to R189) -/

/-- Settles O24: every POP makes the one pop, then loads its destination. -/
theorem popEffects : Obligations.PopEffects := by
  intro s h v up
  have hpop : pop s = .ok (v, up) := pop_eq_ok.mpr ⟨h, rfl⟩
  have loads (load : State → Nibble → State) :
      complete (do let (v, s1) ← pop s; .ok (load s1 v)) = .next (load up v) :=
    complete_eq_next.mpr (bind_eq_ok.mpr ⟨_, hpop, rfl⟩)
  have hsel (r : Sel) : up.selPresent r = s.selPresent r :=
    (State.setSP_selPresent ..).trans (State.touch_selPresent ..)
  exact ⟨fun r => ⟨⟨rfl, rfl⟩, fun hr => exec_popR_of_pop hpop ((hsel r).trans hr)⟩,
    ⟨⟨rfl, rfl⟩, loads State.setXP⟩, ⟨⟨rfl, rfl⟩, loads State.setXH⟩, ⟨⟨rfl, rfl⟩, loads State.setXL⟩,
    ⟨⟨rfl, rfl⟩, loads State.setYP⟩, ⟨⟨rfl, rfl⟩, loads State.setYH⟩, ⟨⟨rfl, rfl⟩, loads State.setYL⟩,
    ⟨rfl, rfl⟩, loads State.setF⟩

end Sys2Proof.Machine
end

section
/-! PROOFS. The parts of the index registers (44_index.md R199 to R218): the loads and stores of one part, and the sums
and comparisons of one half, which the ALU makes in hexadecimal mode whatever D is (R220). -/

namespace Sys2Proof.Machine

/-! ## The ALU in hexadecimal mode (46_arithmetic.md R245, R246) -/

/-- The four low bits of a sum with carry. -/
def nibbleSum (x y : Nibble) (c : Bool) : Nibble := x + y + BitVec.ofNat 4 c.toNat

/-- The fifth bit of a sum with carry. -/
def nibbleCarry (x y : Nibble) (c : Bool) : Bool := decide (16 ≤ x.toNat + y.toNat + c.toNat)

theorem nibbleSum_toNat (x y : Nibble) (c : Bool) : (nibbleSum x y c).toNat = (x.toNat + y.toNat + c.toNat) % 16 := by
  simp [nibbleSum, BitVec.toNat_add]

/-- The carry as a digit: at most one, since two nibbles and a carry stay below 32. -/
theorem nibbleCarry_toNat (x y : Nibble) (c : Bool) :
    (nibbleCarry x y c).toNat = (x.toNat + y.toNat + c.toNat) / 16 := by
  have hc := c.toNat_le
  rw [nibbleCarry, Bool.toNat, Bool.cond_decide]
  split <;> omega

theorem addHex_eq (x y : Nibble) (c : Bool) : addHex x y c = .ofResult (nibbleSum x y c) (nibbleCarry x y c) := by
  have hsum : BitVec.ofNat 4 (x.toNat + y.toNat + c.toNat) = nibbleSum x y c :=
    BitVec.eq_of_toNat_eq ((BitVec.toNat_ofNat ..).trans (nibbleSum_toNat x y c).symm)
  rw [addHex, hsum]
  rfl

theorem subHex_eq (x y : Nibble) (c : Bool) :
    subHex x y c = .ofResult (x - y - BitVec.ofNat 4 c.toNat) (decide (x.toNat < y.toNat + c.toNat)) := by
  have hdiff : BitVec.ofInt 4 ((x.toNat : Int) - y.toNat - c.toNat) = x - y - BitVec.ofNat 4 c.toNat := by
    simp [Int.sub_eq_add_neg, BitVec.ofInt_add, BitVec.ofInt_neg, BitVec.sub_eq_add_neg]
  have hborrow : ((x.toNat : Int) - y.toNat - c.toNat < 0) = (x.toNat < y.toNat + c.toNat) := by
    rw [eq_iff_iff]
    omega
  simp only [subHex, hdiff, hborrow]

theorem State.setAlu_ofResult (s : State) (v : Nibble) (c : Bool) : s.setAlu (.ofResult v c) = s.withCZ c v := rfl

/-- An addition is hexadecimal where the instruction or the D flag says so (R247). -/
theorem add4_of_not_decimal {dec : Bool} {s : State} (h : (dec && s.fd) = false) (x y : Nibble) (c : Bool) :
    add4 x y c dec s = (nibbleSum x y c, s.withCZ (nibbleCarry x y c) (nibbleSum x y c)) := by
  simp only [add4, aluAdd, h, addHex_eq, Bool.false_eq_true, if_false, State.setAlu_ofResult]
  rfl

/-- So is a subtraction. -/
theorem sub4_of_not_decimal {dec : Bool} {s : State} (h : (dec && s.fd) = false) (x y : Nibble) (c : Bool) :
    sub4 x y c dec s = (x - y - BitVec.ofNat 4 c.toNat,
      s.withCZ (decide (x.toNat < y.toNat + c.toNat)) (x - y - BitVec.ofNat 4 c.toNat)) := by
  simp only [sub4, aluSub, h, subHex_eq, Bool.false_eq_true, if_false, State.setAlu_ofResult]
  rfl

/-! ## Addition to a half (R211 to R214) -/

/-- A sum with C loaded where `load` puts it; C and Z are those of the sum. -/
theorem complete_add4 (load : State → Nibble → State) (x i : Nibble) (s : State) :
    complete (.ok (load (add4 x i s.fc false s).2 (add4 x i s.fc false s).1)) =
      .next (load (s.withCZ (nibbleCarry x i s.fc) (nibbleSum x i s.fc)) (nibbleSum x i s.fc)) := by
  rw [add4_of_not_decimal (Bool.false_and _)]
  rfl

theorem exec_adcXHI (i : Nibble) (s : State) :
    exec (.adcXHI i) s = .next ((s.withCZ (nibbleCarry s.xh i s.fc) (nibbleSum s.xh i s.fc)).setXH
      (nibbleSum s.xh i s.fc)) :=
  complete_add4 State.setXH s.xh i s

theorem exec_adcXLI (i : Nibble) (s : State) :
    exec (.adcXLI i) s = .next ((s.withCZ (nibbleCarry s.xl i s.fc) (nibbleSum s.xl i s.fc)).setXL
      (nibbleSum s.xl i s.fc)) :=
  complete_add4 State.setXL s.xl i s

theorem exec_adcYHI (i : Nibble) (s : State) :
    exec (.adcYHI i) s = .next ((s.withCZ (nibbleCarry s.yh i s.fc) (nibbleSum s.yh i s.fc)).setYH
      (nibbleSum s.yh i s.fc)) :=
  complete_add4 State.setYH s.yh i s

theorem exec_adcYLI (i : Nibble) (s : State) :
    exec (.adcYLI i) s = .next ((s.withCZ (nibbleCarry s.yl i s.fc) (nibbleSum s.yl i s.fc)).setYL
      (nibbleSum s.yl i s.fc)) :=
  complete_add4 State.setYL s.yl i s

/-- Settles O30: each half is a hexadecimal sum with C. -/
theorem addToIndexHalves : Obligations.AddToIndexHalves := fun s i =>
  ⟨⟨⟨rfl, rfl⟩, exec_adcXHI i s⟩, ⟨⟨rfl, rfl⟩, exec_adcXLI i s⟩, ⟨⟨rfl, rfl⟩, exec_adcYHI i s⟩,
    ⟨rfl, rfl⟩, exec_adcYLI i s⟩

/-! ## Comparison with a half (R215 to R218) -/

/-- A comparison ignores C and D, and its result is zero for equal nibbles only. -/
theorem sub4_compare (x y : Nibble) (s : State) :
    (sub4 x y false false s).2 = { s with fc := decide (x.toNat < y.toNat), fz := decide (x = y) } := by
  have hzero : (x - y - BitVec.ofNat 4 false.toNat = 0) = (x = y) := by
    rw [eq_iff_iff]
    bv_omega
  rw [sub4_of_not_decimal (Bool.false_and _), State.withCZ]
  simp only [hzero]
  rfl

/-- Settles O31: each is the comparison of its half. -/
theorem compareIndexHalves : Obligations.CompareIndexHalves := by
  intro s i
  have compares (x : Nibble) : complete (.ok (sub4 x i false false s).2) =
      .next { s with fc := decide (x.toNat < i.toNat), fz := decide (x = i) } :=
    congrArg Host.Outcome.next (sub4_compare x i s)
  exact ⟨⟨⟨rfl, rfl⟩, compares s.xh⟩, ⟨⟨rfl, rfl⟩, compares s.xl⟩, ⟨⟨rfl, rfl⟩, compares s.yh⟩,
    ⟨rfl, rfl⟩, compares s.yl⟩

/-! ## Addition to a whole byte (R220) -/

/-- Two halves added one after the other through the carry make the sum of the bytes. -/
theorem nibbleSum_append (h l : Nibble) (e : Byte) (c : Bool) :
    nibbleSum h (hiNibble e) (nibbleCarry l (loNibble e) c) ++ nibbleSum l (loNibble e) c =
      BitVec.ofNat 8 ((h ++ l : Byte).toNat + e.toNat + c.toNat) := by
  apply BitVec.eq_of_toNat_eq
  rw [append_toNat, nibbleSum_toNat, nibbleSum_toNat, nibbleCarry_toNat, BitVec.toNat_ofNat, append_toNat,
    ← halves_toNat e]
  omega

/-- The carry out of the high half is the carry out of the byte. -/
theorem nibbleCarry_nibbleCarry (h l : Nibble) (e : Byte) (c : Bool) :
    nibbleCarry h (hiNibble e) (nibbleCarry l (loNibble e) c) =
      decide (256 ≤ (h ++ l : Byte).toNat + e.toNat + c.toNat) := by
  rw [nibbleCarry, nibbleCarry_toNat, append_toNat, ← halves_toNat e, decide_eq_decide]
  omega

/-- Settles O32: the second addition finds in C the carry of the first, and the other half as it was. -/
theorem indexByteAddition : Obligations.IndexByteAddition := by
  intro s e
  refine ⟨⟨_, _, exec_adcXLI (loNibble e) s, exec_adcXHI (hiNibble e) _, ?_, ?_, ?_, ?_, ?_⟩,
    _, _, exec_adcYLI (loNibble e) s, exec_adcYHI (hiNibble e) _, ?_, ?_, ?_, ?_, ?_⟩
  · exact nibbleSum_append s.xh s.xl e s.fc
  · exact nibbleCarry_nibbleCarry s.xh s.xl e s.fc
  · simp [State.withCZ]
  · simp [State.withCZ, State.iy]
  · simp [State.withCZ]
  · exact nibbleSum_append s.yh s.yl e s.fc
  · exact nibbleCarry_nibbleCarry s.yh s.yl e s.fc
  · simp [State.withCZ]
  · simp [State.withCZ, State.ix]
  · simp [State.withCZ]

/-! ## Loads and stores of one part (R199 to R210, R221) -/

/-- Settles O28: every load reads its operand first, then replaces its part. -/
theorem loadIndexParts : Obligations.LoadIndexParts := by
  intro s r h
  have loads (load : State → Nibble → State) :
      complete (do let (v, s1) ← readSel r s; .ok (load s1 v)) = .next (load (s.touchSel r) (s.sel r)) :=
    complete_eq_next.mpr (bind_eq_ok.mpr ⟨_, readSel_of_present h, rfl⟩)
  exact ⟨⟨⟨rfl, rfl⟩, loads State.setXP⟩, ⟨⟨rfl, rfl⟩, loads State.setXH⟩, ⟨⟨rfl, rfl⟩, loads State.setXL⟩,
    ⟨⟨rfl, rfl⟩, loads State.setYP⟩, ⟨⟨rfl, rfl⟩, loads State.setYH⟩, ⟨rfl, rfl⟩, loads State.setYL⟩

/-- Settles O29: every store is the one write of its part. -/
theorem storeIndexParts : Obligations.StoreIndexParts := by
  intro s r h
  have stores (v : Nibble) : complete (writeSel r v s) = .next (s.putSel r v) :=
    complete_eq_next.mpr (writeSel_of_present h v)
  exact ⟨⟨⟨rfl, rfl⟩, stores s.xp⟩, ⟨⟨rfl, rfl⟩, stores s.xh⟩, ⟨⟨rfl, rfl⟩, stores s.xl⟩,
    ⟨⟨rfl, rfl⟩, stores s.yp⟩, ⟨⟨rfl, rfl⟩, stores s.yh⟩, ⟨rfl, rfl⟩, stores s.yl⟩

end Sys2Proof.Machine
end

section
/-! PROOFS. Data transfer between the operands (45_data_transfer.md R225, R226, R231 to R234): a plain load, and the same
load followed by the step of an index register. -/

namespace Sys2Proof.Machine

/-! ## Plain loads -/

/-- Settles O33: the immediate form is one write, the other one read and then one write. -/
theorem loadsAndMoves : Obligations.LoadsAndMoves := fun _ _ _ i hr hq =>
  ⟨⟨⟨rfl, rfl⟩, exec_ldRI_of_present hr i⟩, ⟨rfl, rfl⟩, exec_ldRQ_of_present hq hr⟩

/-! ## Loads that step an index register (R231 to R234, R237) -/

/-- A transfer that succeeds, followed by a change of the state that cannot fail. -/
theorem complete_transfer_then {transfer : Except Fault State} {u : State} (h : transfer = .ok u)
    (change : State → State) : complete (do let s1 ← transfer; .ok (change s1)) = .next (change u) :=
  complete_eq_next.mpr (bind_eq_ok.mpr ⟨u, h, rfl⟩)

theorem moveSel_of_present {r q : Sel} {s : State} (hr : s.selPresent r = true) (hq : s.selPresent q = true) :
    moveSel r q s = .ok ((s.touchSel q).putSel r (s.sel q)) :=
  moveSel_eq_ok.mpr ⟨hq, hr, rfl⟩

theorem exec_ldpxMXI_of_present {s : State} (h : s.present s.ix = true) (i : Nibble) :
    exec (.ldpxMXI i) s = .next ((s.store s.ix i).incX 1) :=
  complete_transfer_then (memWrite_of_present h i) (State.incX · 1)

theorem exec_ldpyMYI_of_present {s : State} (h : s.present s.iy = true) (i : Nibble) :
    exec (.ldpyMYI i) s = .next ((s.store s.iy i).incY 1) :=
  complete_transfer_then (memWrite_of_present h i) (State.incY · 1)

theorem exec_ldpxRQ_of_present {r q : Sel} {s : State} (hr : s.selPresent r = true) (hq : s.selPresent q = true) :
    exec (.ldpxRQ r q) s = .next (((s.touchSel q).putSel r (s.sel q)).incX 1) :=
  complete_transfer_then (moveSel_of_present hr hq) (State.incX · 1)

theorem exec_ldpyRQ_of_present {r q : Sel} {s : State} (hr : s.selPresent r = true) (hq : s.selPresent q = true) :
    exec (.ldpyRQ r q) s = .next (((s.touchSel q).putSel r (s.sel q)).incY 1) :=
  complete_transfer_then (moveSel_of_present hr hq) (State.incY · 1)

/-- Settles O35: each is a transfer at the old index, then the step of X or of Y. -/
theorem postIncrementLoads : Obligations.PostIncrementLoads := fun _ _ _ i =>
  ⟨fun hx => ⟨⟨rfl, rfl⟩, exec_ldpxMXI_of_present hx i⟩, fun hy => ⟨⟨rfl, rfl⟩, exec_ldpyMYI_of_present hy i⟩,
    fun hr hq => ⟨⟨⟨rfl, rfl⟩, exec_ldpxRQ_of_present hr hq⟩, ⟨rfl, rfl⟩, exec_ldpyRQ_of_present hr hq⟩⟩

end Sys2Proof.Machine
end

section
/-! PROOFS. The ALU (46_arithmetic.md R245 to R248) and the instructions over it. What the ALU gives is said once in each
of its three cases: hexadecimal mode, decimal digits, other operands in decimal mode. What an instruction makes of an ALU
result is said once for each instruction, by its shape, and does not depend on the case. -/

namespace Sys2Proof.Machine

open Sys2Proof.Config

/-! ## The cases of the ALU (R245, R246, R248) -/

/-- Hexadecimal mode: C <- t[4]. -/
theorem aluAdd_hex {d : Bool} (hd : d = false) (x y : Nibble) (c : Bool) (n : Nat) :
    aluAdd x y c d n =
      .ofResult (BitVec.ofNat 4 (x.toNat + y.toNat + c.toNat)) (decide (16 ≤ x.toNat + y.toNat + c.toNat)) := by
  rw [hd]
  rfl

/-- Hexadecimal mode: C <- borrow. -/
theorem aluSub_hex {d : Bool} (hd : d = false) (x y : Nibble) (c : Bool) (n : Nat) :
    aluSub x y c d n = .ofResult (x - y - BitVec.ofNat 4 c.toNat) (decide (x.toNat < y.toNat + c.toNat)) := by
  rw [hd]
  exact subHex_eq x y c

/-- The sum of two digits and a carry is at most 19, so 10 is taken away at most once. -/
theorem addDecimal_eq {x y : Nibble} (hx : x.toNat ≤ 9) (hy : y.toNat ≤ 9) (c : Bool) :
    addDecimal x y c =
      .ofResult (BitVec.ofNat 4 ((x.toNat + y.toNat + c.toNat) % 10)) (decide (10 ≤ x.toNat + y.toNat + c.toNat)) := by
  have hc := c.toNat_le
  by_cases h : 10 ≤ x.toNat + y.toNat + c.toNat
  · have hdigit : (x.toNat + y.toNat + c.toNat) % 10 = x.toNat + y.toNat + c.toNat - 10 := by omega
    simp only [addDecimal, if_pos h, hdigit, decide_eq_true h]
  · have hdigit : (x.toNat + y.toNat + c.toNat) % 10 = x.toNat + y.toNat + c.toNat := by omega
    simp only [addDecimal, if_neg h, hdigit, decide_eq_false h]

/-- The difference of two digits less a borrow is at least -10, so 10 is added at most once. -/
theorem subDecimal_eq {x y : Nibble} (hx : x.toNat ≤ 9) (hy : y.toNat ≤ 9) (c : Bool) :
    subDecimal x y c =
      .ofResult (BitVec.ofNat 4 ((x.toNat + 10 - (y.toNat + c.toNat)) % 10))
        (decide (x.toNat < y.toNat + c.toNat)) := by
  have hc := c.toNat_le
  by_cases h : x.toNat < y.toNat + c.toNat
  · have hneg : (x.toNat : Int) - y.toNat - c.toNat < 0 := by omega
    have hdigit : (x.toNat : Int) - y.toNat - c.toNat + 10 =
        ((x.toNat + 10 - (y.toNat + c.toNat)) % 10 : Nat) := by omega
    simp only [subDecimal, if_pos hneg, hdigit, BitVec.ofInt_natCast, decide_eq_true h]
  · have hpos : ¬ (x.toNat : Int) - y.toNat - c.toNat < 0 := by omega
    have hdigit : (x.toNat : Int) - y.toNat - c.toNat =
        ((x.toNat + 10 - (y.toNat + c.toNat)) % 10 : Nat) := by omega
    simp only [subDecimal, if_neg hpos]
    rw [hdigit, BitVec.ofInt_natCast, decide_eq_false h]

theorem bothDigits_eq_true {x y : Nibble} : bothDigits x y = true ↔ x ≤ 9 ∧ y ≤ 9 := by
  simp [bothDigits]

/-- Decimal mode, two digits. -/
theorem aluAdd_digits {d : Bool} (hd : d = true) {x y : Nibble} (hx : x ≤ 9) (hy : y ≤ 9) (c : Bool) (n : Nat) :
    aluAdd x y c d n =
      .ofResult (BitVec.ofNat 4 ((x.toNat + y.toNat + c.toNat) % 10))
        (decide (10 ≤ x.toNat + y.toNat + c.toNat)) := by
  rw [aluAdd, if_pos hd, if_pos (bothDigits_eq_true.mpr ⟨hx, hy⟩)]
  exact addDecimal_eq hx hy c

theorem aluSub_digits {d : Bool} (hd : d = true) {x y : Nibble} (hx : x ≤ 9) (hy : y ≤ 9) (c : Bool) (n : Nat) :
    aluSub x y c d n =
      .ofResult (BitVec.ofNat 4 ((x.toNat + 10 - (y.toNat + c.toNat)) % 10))
        (decide (x.toNat < y.toNat + c.toNat)) := by
  rw [aluSub, if_pos hd, if_pos (bothDigits_eq_true.mpr ⟨hx, hy⟩)]
  exact subDecimal_eq hx hy c

/-- Decimal mode, an operand above 9 (D3). -/
theorem aluAdd_free {d : Bool} (hd : d = true) {x y : Nibble} (h : ¬ (x ≤ 9 ∧ y ≤ 9)) (c : Bool) (n : Nat) :
    aluAdd x y c d n = aluFree n := by
  rw [aluAdd, if_pos hd, if_neg (bothDigits_eq_true.not.mpr h)]

theorem aluSub_free {d : Bool} (hd : d = true) {x y : Nibble} (h : ¬ (x ≤ 9 ∧ y ≤ 9)) (c : Bool) (n : Nat) :
    aluSub x y c d n = aluFree n := by
  rw [aluSub, if_pos hd, if_neg (bothDigits_eq_true.not.mpr h)]

/-! ## The shapes of instructions, for present operands

The operation gives the word `w` and leaves the state `t`, where the operand to be written answers as it did before. -/

section Shapes

variable {r q : Sel} {s t : State} {w : Nibble}

theorem modifySel_of_present {op : Nibble → State → Nibble × State} (hr : s.selPresent r = true)
    (hop : op (s.sel r) (s.touchSel r) = (w, t)) (ht : t.selPresent r = (s.touchSel r).selPresent r) :
    modifySel r op s = .ok (t.putSel r w) := by
  rw [State.touchSel_selPresent] at ht
  refine modifySel_eq_ok.mpr ⟨hr, ?_, ?_⟩
  · rw [hop, ht, hr]
  · rw [hop]

theorem combineSel_of_present {op : Nibble → Nibble → State → Nibble × State} (hr : s.selPresent r = true)
    (hq : s.selPresent q = true) (hop : op (s.sel r) ((s.touchSel r).sel q) ((s.touchSel r).touchSel q) = (w, t))
    (ht : t.selPresent r = ((s.touchSel r).touchSel q).selPresent r) : combineSel r q op s = .ok (t.putSel r w) := by
  rw [State.touchSel_selPresent, State.touchSel_selPresent] at ht
  refine combineSel_eq_ok.mpr ⟨hr, hq, ?_, ?_⟩
  · rw [hop, ht, hr]
  · rw [hop]

theorem combineMem_of_present {a : Addr} {op : Nibble → Nibble → State → Nibble × State} (ha : s.present a = true)
    (hr : s.selPresent r = true) (hop : op (s.word a) ((s.touch a).sel r) ((s.touch a).touchSel r) = (w, t))
    (ht : t.present a = ((s.touch a).touchSel r).present a) : combineMem a r op s = .ok (t.store a w) := by
  rw [State.touchSel_present, State.touch_present] at ht
  refine combineMem_eq_ok.mpr ⟨ha, hr, ?_, ?_⟩
  · rw [hop, ht, ha]
  · rw [hop]

end Shapes

/-! ## What an ALU result leaves -/

/-- C, Z and `x[r]` become what the ALU gives. -/
def State.putAlu (s : State) (r : Sel) (o : AluOut) : State := (s.setAlu o).putSel r o.result

/-- C, Z and M(a) become what the ALU gives. -/
def State.storeAlu (s : State) (a : Addr) (o : AluOut) : State := (s.setAlu o).store a o.result

section AluResults

variable {s : State} {r : Sel} {a : Addr} {v : Nibble} {c : Bool}

theorem State.putAlu_of_result {o : AluOut} (h : o = .ofResult v c) :
    s.putAlu r o = (s.withCZ c v).putSel r v := by
  rw [h]
  rfl

theorem State.storeAlu_of_result {o : AluOut} (h : o = .ofResult v c) :
    s.storeAlu a o = (s.withCZ c v).store a v := by
  rw [h]
  rfl

/-- The free values are numbered by the draws made so far, and one is counted. -/
theorem State.putAlu_of_free {o : AluOut} (h : o = aluFree s.draws) :
    s.putAlu r o =
      ({ s with fc := decimalCarry s.draws, fz := decimalZero s.draws, draws := s.draws + 1 } : State).putSel r
        (decimalResult s.draws) := by
  rw [h]
  rfl

theorem State.storeAlu_of_free {o : AluOut} (h : o = aluFree s.draws) :
    s.storeAlu a o =
      ({ s with fc := decimalCarry s.draws, fz := decimalZero s.draws, draws := s.draws + 1 } : State).store a
        (decimalResult s.draws) := by
  rw [h]
  rfl

end AluResults

/-! ## The instructions that follow D

The reads before the operation leave C and D alone; a free draw is numbered by the state after them. -/

section AluForms

variable {r q : Sel} {s t : State}

theorem State.touchSel_touchSel_fd (s : State) (r q : Sel) : ((s.touchSel r).touchSel q).fd = s.fd := by simp

theorem State.touchSel_touchSel_fc (s : State) (r q : Sel) : ((s.touchSel r).touchSel q).fc = s.fc := by simp

theorem exec_addRI_of_alu (hr : s.selPresent r = true) {k : Nibble}
    (h : (s.touchSel r).putAlu r (aluAdd (s.sel r) k false s.fd (s.touchSel r).draws) = t) :
    exec (.addRI r k) s = .next t := by
  rw [← h, ← s.touchSel_fd r]
  exact complete_eq_next.mpr (modifySel_of_present hr rfl (State.setAlu_selPresent ..))

theorem exec_adcRI_of_alu (hr : s.selPresent r = true) {k : Nibble}
    (h : (s.touchSel r).putAlu r (aluAdd (s.sel r) k s.fc s.fd (s.touchSel r).draws) = t) :
    exec (.adcRI r k) s = .next t := by
  rw [← h, ← s.touchSel_fd r, ← s.touchSel_fc r]
  exact complete_eq_next.mpr (modifySel_of_present hr rfl (State.setAlu_selPresent ..))

theorem exec_sbcRI_of_alu (hr : s.selPresent r = true) {k : Nibble}
    (h : (s.touchSel r).putAlu r (aluSub (s.sel r) k s.fc s.fd (s.touchSel r).draws) = t) :
    exec (.sbcRI r k) s = .next t := by
  rw [← h, ← s.touchSel_fd r, ← s.touchSel_fc r]
  exact complete_eq_next.mpr (modifySel_of_present hr rfl (State.setAlu_selPresent ..))

theorem exec_addRQ_of_alu (hr : s.selPresent r = true) (hq : s.selPresent q = true)
    (h : ((s.touchSel r).touchSel q).putAlu r
      (aluAdd (s.sel r) ((s.touchSel r).sel q) false s.fd ((s.touchSel r).touchSel q).draws) = t) :
    exec (.addRQ r q) s = .next t := by
  rw [← h, ← State.touchSel_touchSel_fd s r q]
  exact complete_eq_next.mpr (combineSel_of_present hr hq rfl (State.setAlu_selPresent ..))

theorem exec_adcRQ_of_alu (hr : s.selPresent r = true) (hq : s.selPresent q = true)
    (h : ((s.touchSel r).touchSel q).putAlu r
      (aluAdd (s.sel r) ((s.touchSel r).sel q) s.fc s.fd ((s.touchSel r).touchSel q).draws) = t) :
    exec (.adcRQ r q) s = .next t := by
  rw [← h, ← State.touchSel_touchSel_fd s r q, ← State.touchSel_touchSel_fc s r q]
  exact complete_eq_next.mpr (combineSel_of_present hr hq rfl (State.setAlu_selPresent ..))

theorem exec_subRQ_of_alu (hr : s.selPresent r = true) (hq : s.selPresent q = true)
    (h : ((s.touchSel r).touchSel q).putAlu r
      (aluSub (s.sel r) ((s.touchSel r).sel q) false s.fd ((s.touchSel r).touchSel q).draws) = t) :
    exec (.subRQ r q) s = .next t := by
  rw [← h, ← State.touchSel_touchSel_fd s r q]
  exact complete_eq_next.mpr (combineSel_of_present hr hq rfl (State.setAlu_selPresent ..))

theorem exec_sbcRQ_of_alu (hr : s.selPresent r = true) (hq : s.selPresent q = true)
    (h : ((s.touchSel r).touchSel q).putAlu r
      (aluSub (s.sel r) ((s.touchSel r).sel q) s.fc s.fd ((s.touchSel r).touchSel q).draws) = t) :
    exec (.sbcRQ r q) s = .next t := by
  rw [← h, ← State.touchSel_touchSel_fd s r q, ← State.touchSel_touchSel_fc s r q]
  exact complete_eq_next.mpr (combineSel_of_present hr hq rfl (State.setAlu_selPresent ..))

end AluForms

/-! ## The memory forms: M(X) or M(Y) combined with `x[r]`, then the step of X or Y (R271 to R274) -/

section MemoryForms

variable {a : Addr} {r : Sel} {s t : State}

theorem State.touch_touchSel_fd (s : State) (a : Addr) (r : Sel) : ((s.touch a).touchSel r).fd = s.fd := by simp

theorem State.touch_touchSel_fc (s : State) (a : Addr) (r : Sel) : ((s.touch a).touchSel r).fc = s.fc := by simp

theorem combineMem_of_aluAdd (ha : s.present a = true) (hr : s.selPresent r = true)
    (h : ((s.touch a).touchSel r).storeAlu a
      (aluAdd (s.word a) ((s.touch a).sel r) s.fc s.fd ((s.touch a).touchSel r).draws) = t) :
    combineMem a r (fun v u s2 => add4 v u s2.fc true s2) s = .ok t := by
  rw [← h, ← s.touch_touchSel_fd a r, ← s.touch_touchSel_fc a r]
  exact combineMem_of_present ha hr rfl (State.setAlu_present ..)

theorem combineMem_of_aluSub (ha : s.present a = true) (hr : s.selPresent r = true)
    (h : ((s.touch a).touchSel r).storeAlu a
      (aluSub (s.word a) ((s.touch a).sel r) s.fc s.fd ((s.touch a).touchSel r).draws) = t) :
    combineMem a r (fun v u s2 => sub4 v u s2.fc true s2) s = .ok t := by
  rw [← h, ← s.touch_touchSel_fd a r, ← s.touch_touchSel_fc a r]
  exact combineMem_of_present ha hr rfl (State.setAlu_present ..)

theorem exec_acpx_of_ok
    (h : combineMem s.ix r (fun v u s2 => add4 v u s2.fc true s2) s = .ok t) : exec (.acpx r) s = .next (t.incX 1) :=
  complete_transfer_then h (State.incX · 1)

theorem exec_acpy_of_ok
    (h : combineMem s.iy r (fun v u s2 => add4 v u s2.fc true s2) s = .ok t) : exec (.acpy r) s = .next (t.incY 1) :=
  complete_transfer_then h (State.incY · 1)

theorem exec_scpx_of_ok
    (h : combineMem s.ix r (fun v u s2 => sub4 v u s2.fc true s2) s = .ok t) : exec (.scpx r) s = .next (t.incX 1) :=
  complete_transfer_then h (State.incX · 1)

theorem exec_scpy_of_ok
    (h : combineMem s.iy r (fun v u s2 => sub4 v u s2.fc true s2) s = .ok t) : exec (.scpy r) s = .next (t.incY 1) :=
  complete_transfer_then h (State.incY · 1)

end MemoryForms

end Sys2Proof.Machine
end

section
/-! PROOFS. Arithmetic and logical instructions (46_arithmetic.md R250 to R275). An obligation about sums or differences is
one case of the ALU put into each instruction it names; the logical ones are an operation on words and Z. -/

namespace Sys2Proof.Machine

open Sys2Proof.Config

/-! ## Addition and subtraction (R250 to R256) -/

/-- Settles O37: the hexadecimal sum in each form. -/
theorem hexadecimalAddition : Obligations.HexadecimalAddition := fun _ _ _ _ hr hq hd =>
  ⟨⟨rfl, rfl⟩, ⟨rfl, rfl⟩, ⟨rfl, rfl⟩, ⟨rfl, rfl⟩,
    List.forall_iff_forall_mem.mp
      ⟨exec_addRI_of_alu hr (State.putAlu_of_result (aluAdd_hex hd ..)),
        exec_adcRI_of_alu hr (State.putAlu_of_result (aluAdd_hex hd ..))⟩,
    List.forall_iff_forall_mem.mp
      ⟨exec_addRQ_of_alu hr hq (State.putAlu_of_result (aluAdd_hex hd ..)),
        exec_adcRQ_of_alu hr hq (State.putAlu_of_result (aluAdd_hex hd ..))⟩⟩

/-- Settles O38: the hexadecimal difference in each form. -/
theorem hexadecimalSubtraction : Obligations.HexadecimalSubtraction := fun _ _ _ _ hr hq hd =>
  ⟨⟨rfl, rfl⟩, ⟨rfl, rfl⟩, ⟨rfl, rfl⟩, exec_sbcRI_of_alu hr (State.putAlu_of_result (aluSub_hex hd ..)),
    List.forall_iff_forall_mem.mp
      ⟨exec_subRQ_of_alu hr hq (State.putAlu_of_result (aluSub_hex hd ..)),
        exec_sbcRQ_of_alu hr hq (State.putAlu_of_result (aluSub_hex hd ..))⟩⟩

/-- Settles O39: the sum of digits in each form. -/
theorem decimalAddition : Obligations.DecimalAddition := fun _ _ _ _ hr hq hd hx =>
  ⟨List.forall_iff_forall_mem.mp
      ⟨fun hy => exec_addRI_of_alu hr (State.putAlu_of_result (aluAdd_digits hd hx hy ..)),
        fun hy => exec_adcRI_of_alu hr (State.putAlu_of_result (aluAdd_digits hd hx hy ..))⟩,
    List.forall_iff_forall_mem.mp
      ⟨fun hy => exec_addRQ_of_alu hr hq (State.putAlu_of_result (aluAdd_digits hd hx hy ..)),
        fun hy => exec_adcRQ_of_alu hr hq (State.putAlu_of_result (aluAdd_digits hd hx hy ..))⟩⟩

/-- Settles O40: the difference of digits in each form. -/
theorem decimalSubtraction : Obligations.DecimalSubtraction := fun _ _ _ _ hr hq hd hx =>
  ⟨fun hy => exec_sbcRI_of_alu hr (State.putAlu_of_result (aluSub_digits hd hx hy ..)),
    List.forall_iff_forall_mem.mp
      ⟨fun hy => exec_subRQ_of_alu hr hq (State.putAlu_of_result (aluSub_digits hd hx hy ..)),
        fun hy => exec_sbcRQ_of_alu hr hq (State.putAlu_of_result (aluSub_digits hd hx hy ..))⟩⟩

/-- Settles O41: the three free values in each form. -/
theorem decimalOnOtherOperands : Obligations.DecimalOnOtherOperands := fun _ _ _ _ hr hq hd =>
  ⟨fun h => List.forall_iff_forall_mem.mp
      ⟨exec_addRI_of_alu hr (State.putAlu_of_free (aluAdd_free hd h ..)),
        exec_adcRI_of_alu hr (State.putAlu_of_free (aluAdd_free hd h ..)),
        exec_sbcRI_of_alu hr (State.putAlu_of_free (aluSub_free hd h ..))⟩,
    fun h => List.forall_iff_forall_mem.mp
      ⟨exec_addRQ_of_alu hr hq (State.putAlu_of_free (aluAdd_free hd h ..)),
        exec_adcRQ_of_alu hr hq (State.putAlu_of_free (aluAdd_free hd h ..)),
        exec_subRQ_of_alu hr hq (State.putAlu_of_free (aluSub_free hd h ..)),
        exec_sbcRQ_of_alu hr hq (State.putAlu_of_free (aluSub_free hd h ..))⟩⟩

/-! ## ACPX, ACPY, SCPX, SCPY (R271 to R274) -/

/-- Settles O42: the hexadecimal sum and difference at either address. -/
theorem memoryAddAndSubtract : Obligations.MemoryAddAndSubtract := by
  intro s r hr hd
  have added {a : Addr} (ha : s.present a = true) :=
    combineMem_of_aluAdd ha hr (State.storeAlu_of_result (aluAdd_hex hd ..))
  have taken {a : Addr} (ha : s.present a = true) :=
    combineMem_of_aluSub ha hr (State.storeAlu_of_result (aluSub_hex hd ..))
  exact ⟨⟨rfl, rfl⟩, ⟨rfl, rfl⟩, ⟨rfl, rfl⟩, ⟨rfl, rfl⟩,
    fun hx => ⟨exec_acpx_of_ok (added hx), exec_scpx_of_ok (taken hx)⟩,
    fun hy => ⟨exec_acpy_of_ok (added hy), exec_scpy_of_ok (taken hy)⟩⟩

/-- Settles O43: at either address the decimal sum and difference, or the free values. -/
theorem memoryDecimalDigits : Obligations.MemoryDecimalDigits := by
  intro s r hr hd
  have added {a : Addr} (ha : s.present a = true) (hv : s.word a ≤ 9) (hu : (s.touch a).sel r ≤ 9) :=
    combineMem_of_aluAdd ha hr (State.storeAlu_of_result (aluAdd_digits hd hv hu ..))
  have taken {a : Addr} (ha : s.present a = true) (hv : s.word a ≤ 9) (hu : (s.touch a).sel r ≤ 9) :=
    combineMem_of_aluSub ha hr (State.storeAlu_of_result (aluSub_digits hd hv hu ..))
  have addedFree {a : Addr} (ha : s.present a = true) (h : ¬ (s.word a ≤ 9 ∧ (s.touch a).sel r ≤ 9)) :=
    combineMem_of_aluAdd ha hr (State.storeAlu_of_free (aluAdd_free hd h ..))
  have takenFree {a : Addr} (ha : s.present a = true) (h : ¬ (s.word a ≤ 9 ∧ (s.touch a).sel r ≤ 9)) :=
    combineMem_of_aluSub ha hr (State.storeAlu_of_free (aluSub_free hd h ..))
  exact ⟨fun hx => ⟨fun ⟨hv, hu⟩ => ⟨exec_acpx_of_ok (added hx hv hu), exec_scpx_of_ok (taken hx hv hu)⟩,
      fun h => ⟨exec_acpx_of_ok (addedFree hx h), exec_scpx_of_ok (takenFree hx h)⟩⟩,
    fun hy => ⟨fun ⟨hv, hu⟩ => ⟨exec_acpy_of_ok (added hy hv hu), exec_scpy_of_ok (taken hy hv hu)⟩,
      fun h => ⟨exec_acpy_of_ok (addedFree hy h), exec_scpy_of_ok (takenFree hy h)⟩⟩⟩

/-! ## Logic (R257 to R262, R275) -/

section Logic

variable {r q : Sel} {s : State}

theorem modifySel_logic (hr : s.selPresent r = true) (f : Nibble → Nibble) :
    modifySel r (fun v u => logic4 (f v) u) s =
      .ok (((s.touchSel r).setZ (decide (f (s.sel r) = 0))).putSel r (f (s.sel r))) :=
  modifySel_of_present hr rfl (State.setZ_selPresent ..)

theorem combineSel_logic (hr : s.selPresent r = true) (hq : s.selPresent q = true) (f : Nibble → Nibble → Nibble) :
    combineSel r q (fun v w u => logic4 (f v w) u) s =
      .ok ((((s.touchSel r).touchSel q).setZ (decide (f (s.sel r) ((s.touchSel r).sel q) = 0))).putSel r
        (f (s.sel r) ((s.touchSel r).sel q))) :=
  combineSel_of_present hr hq rfl (State.setZ_selPresent ..)

end Logic

theorem getLsbD_not_of_lt {v : Nibble} {j : Nat} (hj : j < 4) : (~~~v).getLsbD j = !v.getLsbD j := by
  rw [BitVec.getLsbD_not, decide_eq_true hj, Bool.true_and]

/-- Settles O44: each form is one read-modify-write, with an operation on words that works bit by bit. -/
theorem logicOperations : Obligations.LogicOperations := by
  intro s r q k hr hq
  refine ⟨⟨rfl, rfl⟩, ⟨rfl, rfl⟩, ⟨rfl, rfl⟩, ⟨rfl, rfl⟩, ⟨rfl, rfl⟩, ⟨rfl, rfl⟩, ⟨rfl, rfl⟩, ?_⟩
  exact ⟨⟨_, complete_eq_next.mpr (modifySel_logic hr (· &&& k)), fun _ _ => BitVec.getLsbD_and⟩,
    ⟨_, complete_eq_next.mpr (modifySel_logic hr (· ||| k)), fun _ _ => BitVec.getLsbD_or⟩,
    ⟨_, complete_eq_next.mpr (modifySel_logic hr (· ^^^ k)), fun _ _ => BitVec.getLsbD_xor⟩,
    ⟨_, complete_eq_next.mpr (modifySel_logic hr (~~~ ·)), fun _ hj => getLsbD_not_of_lt hj⟩,
    ⟨_, complete_eq_next.mpr (combineSel_logic hr hq (· &&& ·)), fun _ _ => BitVec.getLsbD_and⟩,
    ⟨_, complete_eq_next.mpr (combineSel_logic hr hq (· ||| ·)), fun _ _ => BitVec.getLsbD_or⟩,
    ⟨_, complete_eq_next.mpr (combineSel_logic hr hq (· ^^^ ·)), fun _ _ => BitVec.getLsbD_xor⟩⟩

/-! ## CP and FAN (R263 to R266) -/

/-- The conjunction of two words is zero where they have no bit in common. -/
theorem and_eq_zero_iff {v u : Nibble} : v &&& u = 0 ↔ ∀ j < 4, (v.getLsbD j && u.getLsbD j) = false := by
  constructor
  · intro h j _
    rw [← BitVec.getLsbD_and, h]
    exact BitVec.getLsbD_zero
  · intro h
    refine BitVec.eq_of_getLsbD_eq fun j hj => ?_
    rw [BitVec.getLsbD_and, h j hj]
    exact BitVec.getLsbD_zero.symm

/-- Settles O45: the operands are read, and then the flags alone are written. -/
theorem compareAndTest : Obligations.CompareAndTest := by
  intro s r q k hr hq
  refine ⟨⟨rfl, rfl⟩, ⟨rfl, rfl⟩, ⟨rfl, rfl⟩, ⟨rfl, rfl⟩, ?_, ?_, ⟨decide (s.sel r &&& k = 0), ?_, ?_⟩,
    ⟨decide (s.sel r &&& (s.touchSel r).sel q = 0), ?_, ?_⟩⟩
  · exact complete_eq_next.mpr (testSel_eq_ok.mpr ⟨hr, (sub4_compare ..).symm⟩)
  · exact complete_eq_next.mpr (testSel2_eq_ok.mpr ⟨hr, hq, (sub4_compare ..).symm⟩)
  · exact complete_eq_next.mpr (testSel_eq_ok.mpr ⟨hr, rfl⟩)
  · exact decide_eq_true_iff.trans and_eq_zero_iff
  · exact complete_eq_next.mpr (testSel2_eq_ok.mpr ⟨hr, hq, rfl⟩)
  · exact decide_eq_true_iff.trans and_eq_zero_iff

/-! ## RLC as an addition (R253, R267) -/

/-- The bit that RLC shifts out is the carry of the word added to itself. -/
theorem getLsbD_three_eq_carry : ∀ (v : Nibble) (c : Bool),
    v.getLsbD 3 = decide (16 ≤ v.toNat + v.toNat + c.toNat) := by decide

/-- An operand that is a register or RAM is there, and reading it changes nothing. -/
theorem selPresent_and_touchSel_of_ram {s : State} {r : Sel}
    (h : ∀ a, s.selAddr r = some a → s.kindAt a = .ram) : s.selPresent r = true ∧ s.touchSel r = s := by
  cases r with
  | a | b => exact ⟨rfl, rfl⟩
  | mx | my => exact ⟨State.present_of_ram (h _ rfl), State.touch_of_ram (h _ rfl)⟩

/-- Z does not matter to a write of `x[r]`. -/
theorem State.setZ_putSel (s : State) (z : Bool) (r : Sel) (v : Nibble) :
    (s.setZ z).putSel r v = (s.putSel r v).setZ z := by
  cases r with
  | a | b => rfl
  | mx | my =>
    simp only [State.putSel, State.store, State.setZ_ix, State.setZ_iy, State.setZ_kindAt]
    split <;> rfl

/-- Settles O47: over a register or RAM both read one word `v` and write `2v + C`; only what they do to Z can differ. -/
theorem rotateLeftIsAddWithCarry : Obligations.RotateLeftIsAddWithCarry := by
  intro s r hram hd
  obtain ⟨hr, htouch⟩ := selPresent_and_touchSel_of_ram hram
  let n := (s.sel r).toNat + (s.sel r).toNat + s.fc.toNat
  let w := BitVec.ofNat 4 n
  let u := s.setC (decide (16 ≤ n))
  have hadc : exec (.adcRQ r r) s = .next ((u.setZ (decide (w = 0))).putSel r w) := by
    refine exec_adcRQ_of_alu hr hr ?_
    rw [htouch, htouch]
    exact State.putAlu_of_result (aluAdd_hex hd ..)
  have hrlc : exec (.rlc r) s = .next ((u.rotateZ w).putSel r w) := by
    rw [exec_rlc hr, htouch, getLsbD_three_eq_carry _ s.fc, Nat.two_mul]
  refine ⟨fun hz => ?_, fun hz => ⟨u.putSel r w, _, ?_, hadc, ?_⟩⟩
  · rw [hrlc, hadc, State.rotateZ_of_writes (s := u) hz]
  · rw [hrlc, State.rotateZ_of_keeps (s := u) hz]
  · rw [State.setZ_putSel]
    have hfz : (u.putSel r w).fz = s.fz := by simp [u]
    rw [← hfz]
    rfl

end Sys2Proof.Machine
end

section
/-! PROOFS. The entry of an interrupt (60_exceptions.md R306, R307): the return address pushed as by a call, and then the
state in which the routine starts. -/

namespace Sys2Proof.Machine

/-- The step of vector `v` as a byte: high nibble 0, low nibble `v` (R306). -/
theorem zero_append_eq_ofNat (v : Nibble) : (0 : Nibble) ++ v = BitVec.ofNat 8 v.toNat := by
  rw [BitVec.ofNat_toNat, BitVec.setWidth_eq_append (by decide : 4 ≤ 8)]
  rfl

/-- What entry changes once the return address is pushed, field by field (R306, R307). -/
theorem State.entered_eq (s : State) (v : Nibble) :
    s.entered v =
      { s with
          fi := false, nbp := s.pcb, npp := 1, pcp := 1, pcs := BitVec.ofNat 8 v.toNat
          run := .run, afterPset := false, eiDelay := false } := by
  rw [State.entered, zero_append_eq_ofNat]
  rfl

/-- Settles O57: the bank copied to NBP is the one before the push, since the push leaves PCB. -/
theorem interruptEntry : Obligations.InterruptEntry := by
  intro s v h
  rw [raiseInterrupt_eq_entered h, State.entered_eq, ← s.returnPushed_pcb]
  rfl

end Sys2Proof.Machine
end

section
/-! PROOFS. Reset (70_reset_and_hazards.md R340, R342, R344). A step with a reset presented at its boundary, and a step
that stops for a reason of the model with a reset to come later, both end in initial reset: each way a step can stop is
brought to the same stop or to an interrupt entry without memory, and reset follows from either. -/

namespace Sys2Proof.Machine

open Sys2Proof.Config

/-! ## What executing a fetched word cannot do -/

/-- Execution takes no input: inputs belong to the boundary. -/
theorem exec_inputs {i : Instr} {s t : State} (h : exec i s = .next t) : t.inputs = s.inputs := by
  obtain ⟨-, -, -, -, -, -, -, hinputs, -⟩ := (exec_listedWrites h).control
  exact hinputs

theorem executeWord_inputs {w : Treatment} {s t : State} (h : executeWord w s = .next t) : t.inputs = s.inputs := by
  cases w with
  | secondCode i => exact exec_inputs h
  | own l clk =>
    exact runSteps_keeps (P := fun u => u.inputs = s.inputs) (fun _ _ _ hu hx => (exec_inputs hx).trans hu)
      (fun _ _ _ hu => (State.setPlace_inputs ..).trans hu) (fun _ _ hu => hu) l 0 0 s t rfl h

/-- An instruction completes or stops at an absent address, so it is never refused. -/
theorem exec_ne_refused (i : Instr) (s : State) (q : Refusal) : exec i s ≠ .refused q := by
  intro h
  obtain ⟨hcompletes, hstops⟩ := completesUnlessAbsent i s
  by_cases hall : ∀ c ∈ accessesOf i s, s.present c.addr = true
  · obtain ⟨t, ht⟩ := hcompletes hall
    simp [ht] at h
  · obtain ⟨c, -, -, hf⟩ := hstops (by simpa using hall)
    simp [hf] at h

theorem runSteps_ne_refused (q : Refusal) :
    ∀ (l : List Micro) (skip : Nat) (temp : Nibble) (s : State), runSteps l skip temp s ≠ .refused q := by
  intro l
  induction l with
  | nil => intro skip temp s; cases skip <;> nofun
  | cons m l ih =>
    intro skip temp s
    cases skip with
    | succ n => exact ih n temp s
    | zero =>
      cases m with
      | acts i =>
        cases hx : exec i s with
        | next t => rw [runSteps_acts_of_next hx]; exact ih 0 temp t
        | fault f => rw [runSteps_acts_of_fault hx]; nofun
        | refused r => exact absurd hx (exec_ne_refused i s r)
      | put g v => exact ih _ _ _
      | copy g k => exact ih _ _ _
      | free g => exact ih _ _ _
      | skip g mask value n => exact ih _ _ _

theorem executeWord_ne_refused (w : Treatment) (s : State) (q : Refusal) : executeWord w s ≠ .refused q := by
  cases w with
  | secondCode i => exact exec_ne_refused i s q
  | own l clk => exact runSteps_ne_refused q l 0 0 s

/-! ## The bookkeeping before the boundary -/

theorem finishWord_inputs {w : Treatment} {s t : State} (hx : executeWord w s.advance = .next t) :
    (finishWord w s.advance t).inputs = s.inputs := by
  obtain ⟨_, _, h⟩ := finishWord_eq w s.advance t
  rw [h]
  exact (executeWord_inputs hx).trans s.advance_inputs

theorem finishWord_dev {w : Treatment} {s t : State} (hx : executeWord w s.advance = .next t) :
    (finishWord w s.advance t).dev = s.dev := by
  obtain ⟨_, _, h⟩ := finishWord_eq w s.advance t
  rw [h]
  exact (executeWord_dev hx).trans s.advance_dev

/-- Room on the stack is a matter of SP and the device. -/
theorem finishWord_pushRoom (w : Treatment) (s t : State) : (finishWord w s t).pushRoom ↔ t.pushRoom := by
  obtain ⟨_, _, h⟩ := finishWord_eq w s t
  rw [h]
  exact Iff.rfl

/-- After an instruction other than PSET that keeps I = 1, nothing delays a request. -/
theorem endOfInstr_accepts {i : Instr} {s t : State} {v : Nibble} (hp : isPset i = false) (hs : s.fi = true)
    (ht : t.fi = true) (hv : v ≠ 0) : (endOfInstr i s t).accepts v = true := by
  rw [endOfInstr_eq, hp, hs]
  exact (State.accepts_iff hv).mpr ⟨ht, rfl, rfl⟩

/-! ## A step that ends in reset -/

/-- The step of `s` is initial reset, `rest` the inputs left after it. -/
def StepIsReset (s : State) (rest : List Input) : Prop :=
  ∃ t : State, t.dev = s.dev ∧ step s = .next (t.setInputs rest).initialReset

theorem stepIsReset_of_boundary {s e : State} {rest : List Input} (hstep : step s = e.settle) (hdev : e.dev = s.dev)
    (hi : e.inputs = .reset :: rest) : StepIsReset s rest :=
  ⟨e, hdev, hstep.trans (State.settle_of_boundary (State.boundary_reset hi))⟩

theorem stepIsReset_of_stopped {s : State} {f : Fault} {before rest : List Input}
    (hi : s.inputs = before ++ .reset :: rest) (hb : ∀ x ∈ before, x ≠ .reset) (hstep : step s = s.stopped f) :
    StepIsReset s rest :=
  ⟨s, rfl, hstep.trans (State.stopped_of_reset hi hb f)⟩

theorem step_of_fetch_word {s : State} {w : Treatment} (hr : s.run = .run) (hf : fetch s = .ok w) :
    step s = runWord w s := by
  simp [step, cycle, hr, hf]

/-- A reset presented at the boundary: reached, it is taken there; a stop before it ends in the same reset. -/
theorem stepIsReset_of_reset_presented {s : State} {rest : List Input} (hi : s.inputs = .reset :: rest) :
    StepIsReset s rest := by
  have hstop {f : Fault} (hstep : step s = s.stopped f) : StepIsReset s rest :=
    stepIsReset_of_stopped (before := []) hi (by simp) hstep
  by_cases hr : s.run = .run
  · cases hf : fetch s with
    | error f => exact hstop (step_of_no_fetch hr hf)
    | ok w =>
      have hstep := step_of_fetch_word hr hf
      cases hx : executeWord w s.advance with
      | next t =>
        exact stepIsReset_of_boundary (hstep.trans (runWord_of_next hx)) (finishWord_dev hx)
          ((finishWord_inputs hx).trans hi)
      | fault f => exact hstop (hstep.trans (runWord_of_fault hx))
      | refused q => exact absurd hx (executeWord_ne_refused w s.advance q)
  · exact stepIsReset_of_boundary (step_of_halted hr) rfl hi

/-! ## A stop with a reset to come -/

/-- The fetch fails for a word without a meaning, or outside the subset, to which the device gives no treatment. -/
theorem fetch_of_no_treatment {s : State} {w : Word} (hl : Cells.lookup s.dev.rom s.pc.toNat = some w)
    (hw : excludedWord s.dev.excluded w = true ∨ (decode w).toOption = none)
    (ht : treatmentOf s.dev.unassigned w = none) : ∃ f, fetch s = .error f := by
  rw [fetch_of_lookup hl]
  cases hx : excludedWord s.dev.excluded w with
  | true => exact ⟨_, operationOf_of_excluded hx ht⟩
  | false => exact ⟨_, operationOf_of_unassigned hx (hw.resolve_left (by simp [hx])) ht⟩

theorem raiseInterrupt_of_not_pushRoom {s : State} (h : ¬ s.pushRoom) (v : Nibble) :
    ∃ f, raiseInterrupt v s = .error f := by
  cases hv : raiseInterrupt v s with
  | error f => exact ⟨f, rfl⟩
  | ok t =>
    obtain ⟨u, hu, -⟩ := raiseInterrupt_eq_ok.mp hv
    obtain ⟨h1, h2, h3, -⟩ := pushReturn_eq_ok.mp hu
    exact absurd ⟨h1, h2, h3⟩ h

/-- Interrupt entry without memory for the return address stops the core. -/
theorem State.settle_of_not_pushRoom {e : State} {v : Nibble} {l : List Input} (hi : e.inputs = .request v :: l)
    (ha : e.accepts v = true) (hroom : ¬ e.pushRoom) : ∃ f, e.settle = e.stopped f := by
  obtain ⟨f, hf⟩ := raiseInterrupt_of_not_pushRoom (s := e.setInputs l) hroom v
  exact ⟨f, by rw [State.settle, State.boundary_request_accepted hi ha, hf]⟩

section
variable {s : State} {before rest l : List Input} {v : Nibble}

theorem stepIsReset_of_entry {e : State} (hi : s.inputs = before ++ .reset :: rest) (hb : ∀ x ∈ before, x ≠ .reset)
    (hv : before = .request v :: l) (hstep : step s = e.settle) (hdev : e.dev = s.dev) (hinputs : e.inputs = s.inputs)
    (ha : e.accepts v = true) (hroom : ¬ e.pushRoom) : StepIsReset s rest := by
  have hrequest : e.inputs = .request v :: (l ++ .reset :: rest) := by rw [hinputs, hi, hv]; rfl
  obtain ⟨f, hf⟩ := State.settle_of_not_pushRoom hrequest ha hroom
  exact ⟨e, hdev, (hstep.trans hf).trans (State.stopped_of_reset (hinputs.trans hi) hb f)⟩

/-- The same at the end of a fetched word. -/
theorem stepIsReset_of_entry_after_word {w : Treatment} {t : State} (hi : s.inputs = before ++ .reset :: rest)
    (hb : ∀ x ∈ before, x ≠ .reset) (hv : before = .request v :: l) (hstep : step s = runWord w s)
    (hx : executeWord w s.advance = .next t) (ha : (finishWord w s.advance t).accepts v = true)
    (hroom : ¬ t.pushRoom) : StepIsReset s rest :=
  stepIsReset_of_entry hi hb hv (hstep.trans (runWord_of_next hx)) (finishWord_dev hx) (finishWord_inputs hx) ha
    (mt (finishWord_pushRoom ..).mp hroom)

end

/-! ## The values of R340 -/

/-- D has a reset value on the S1C6200A only (log 2). -/
theorem State.powerOn_fd {dev : Device} (h : dev.core = .s1c6200A) (epoch : Nat) :
    (State.powerOn dev epoch).fd = false := by
  simp [State.powerOn, h]

/-- Settles O8: every step it speaks of is an initial reset, whose values are those of power on. -/
theorem resetState : Obligations.ResetState := by
  unfold Obligations.ResetState
  intro good
  have hvalues (s : State) : good s.initialReset :=
    ⟨rfl, rfl, rfl, rfl, rfl, rfl, fun hcore => State.powerOn_fd hcore _, rfl, rfl, rfl⟩
  have hreset {s : State} {rest : List Input} (h : StepIsReset s rest) :
      ∃ u, step s = .next u ∧ good u ∧ u.inputs = rest ∧ u.dev = s.dev := by
    obtain ⟨t, hdev, hstep⟩ := h
    exact ⟨_, hstep, hvalues _, rfl, hdev⟩
  refine ⟨⟨rfl, rfl, rfl, rfl, rfl, rfl, fun _ => rfl, rfl, rfl, rfl⟩,
    fun s rest hi => hreset (stepIsReset_of_reset_presented hi), fun s before rest hi hb hcase => hreset ?_⟩
  have hstop {f : Fault} (hstep : step s = s.stopped f) : StepIsReset s rest := stepIsReset_of_stopped hi hb hstep
  rcases hcase with ⟨hr, hl⟩ | ⟨hr, w, hl, hw, ht⟩ | ⟨i, f, h, hx⟩ |
    ⟨i, t, v, l, h, hx, hp, hs, ht, hroom, hv, hbefore⟩ | ⟨hr, w, d, hl, hw, hd, hword⟩ |
    ⟨hr, hs, hroom, v, l, hv, hbefore⟩
  · exact hstop (step_of_no_fetch hr (fetch_of_no_word hl))
  · obtain ⟨f, hf⟩ := fetch_of_no_treatment hl hw ht
    exact hstop (step_of_no_fetch hr hf)
  · exact hstop ((step_of_fetches h).trans (runInstr_of_fault hx))
  · exact stepIsReset_of_entry_after_word (w := .secondCode i) hi hb hbefore (step_of_fetches h) hx
      (endOfInstr_accepts hp hs ht hv) hroom
  · have hstep := step_of_treatment hr hl hw hd
    rcases hword with ⟨f, hx⟩ | ⟨t, v, l, hx, ha, hroom, hbefore⟩
    · exact hstop (hstep.trans (runWord_of_fault hx))
    · exact stepIsReset_of_entry_after_word hi hb hbefore hstep hx ha hroom
  · exact stepIsReset_of_entry hi hb hbefore (step_of_halted hr) rfl rfl
      ((State.accepts_iff hv).mpr ⟨hs, rfl, rfl⟩) hroom

end Sys2Proof.Machine
end
